-- ==== Sys2Proof/Word.lean ====
section
/-!
DEFINITION. Word.lean: the widths of spec/00_scope.md R10 and spec/30_encoding.md R100: 32-bit command words, bytes, 24-bit colours.
-/

namespace Sys2Proof

/-- A 32-bit command, data or register word ("Command Word: an opaque 32-bit unsigned value", R18, R100). -/
abbrev Word := BitVec 32

/-- A byte of the VRAM byte image and of the save-state record (R72, R308). -/
abbrev Byte := BitVec 8

/-- A 24-bit colour, red in bits 7:0, green in 15:8, blue in 23:16 (R134). -/
abbrev Colour := BitVec 24

end Sys2Proof
end

