-- ==== Sys2Proof/Config.lean ====
section
/-!
DEFINITION. Config.lean: the parameters of spec/00_scope.md R8, the dispatch table among them (spec/30_encoding.md R108), and the free
values of the model: what the spec says is "unspecified" or "any value" (spec/93_implementation_defined.md U2, U3, U5). A free value
is an opaque constant: nothing can evaluate it or prove a value of it.
-/

namespace Sys2Proof

/-! ### The type of the dispatch table (R8, R18, R108) -/

/-- The length class of an entry. Length class 0 is no entry at all (R108), and a `fixed 0` is ill-formed (R8). -/
inductive LengthClass where
  /-- exactly `n` words -/
  | fixed (n : Nat)
  /-- the mono poly-line: ended by a terminator at index 3 or above, or at 254 words -/
  | varF
  /-- the shaded poly-line: ended by a terminator at an even index 4 or above, or at 255 words -/
  | varG
  deriving DecidableEq, Repr

/-- The handlers of R108, one per named rendering command. -/
inductive Handler where
  | fill | irq1 | polyF3 | polyFT3 | polyF4 | polyFT4 | polyG3 | polyGT3 | polyG4 | polyGT4 | lineF2 | plineF | lineG2
  | plineG | tile | sprt | tile1 | sprt1 | tile8 | sprt8 | tile16 | sprt16 | move | load | store | texpage | texwin
  | drawareaTL | drawareaBR | drawofs | maskset
  deriving DecidableEq, Repr

/-- A Dispatch Entry: "immutable pair (expected word count or variable-length marker, handler reference)" (R18). -/
structure DispatchEntry where
  length : LengthClass
  handler : Handler
  deriving DecidableEq, Repr

/-- The parameters of R8. They are configuration: no step changes them (log 2). -/
structure Config where
  /-- `DISPATCH`, 256 entries by id; `none` is length class 0, an unknown id (R8, R108, R110; log 3) -/
  dispatch : Vector (Option DispatchEntry) 256
  /-- `DISP_WIDTH_LUT`, eight naturals (R23). -/
  dispWidthLut : Vector Nat 8
  /-- `DISP_HEIGHT_LUT`, four naturals (R24). -/
  dispHeightLut : Vector Nat 4
  /-- `FAKE_BUSY_READS` (R43, R252). -/
  fakeBusyReads : Nat
  /-- `FREEZE_VERSION` (R308). -/
  freezeVersion : Word
  /-- `GPU_VERSION_WORD` (R283). -/
  gpuVersionWord : Word
  /-- `POLY_TEXPAGE_WRITEBACK` (R159). -/
  polyTexpageWriteback : Bool
  /-- `RESET_CLEARS_ASSEMBLER` (R272). -/
  resetClearsAssembler : Bool
  /-- `FILL_X_ALIGN16` (R82). -/
  fillXAlign16 : Bool
  /-- `SKIP_LO` (R251). -/
  skipLo : BitVec 8
  /-- `SKIP_HI` (R251). -/
  skipHi : BitVec 8
  /-- `GP0_TRANSFER_MIRRORS` (R108). -/
  transferMirrors : Bool
  deriving DecidableEq, Repr

/-- Word `index` of the buffer that no word of the command numbered `k` was stored in, where its handler reads it all the same: any
value (U3; log 26). -/
opaque Config.deadWord (k : Nat) (index : Nat) : Word

/-- The byte at a byte address of VRAM after the power-on numbered `epoch`, until it is first written: unspecified (R53, U2; log 4). -/
opaque Config.vramPowerOn (epoch : Nat) (address : Nat) : Byte

/-- `TEXWIN` after the accepted thaw numbered `k`: any value (R309, U5; log 5). -/
opaque Config.thawTexwin (k : Nat) : BitVec 20
/-- `DRAW_TL` after an accepted thaw: any value (R309, U5; log 5). -/
opaque Config.thawDrawTl (k : Nat) : BitVec 19
/-- `DRAW_BR` after an accepted thaw: any value (R309, U5; log 5). -/
opaque Config.thawDrawBr (k : Nat) : BitVec 19
/-- `DRAWOFS` after an accepted thaw: any value (R309, U5; log 5). -/
opaque Config.thawDrawOfs (k : Nat) : BitVec 22
/-- `TEXFLIP` after an accepted thaw: any value (R309, U5; log 5). -/
opaque Config.thawTexflip (k : Nat) : BitVec 2
/-- `TEXDIS_ALLOW` after an accepted thaw: any value (R309, U5; log 5). -/
opaque Config.thawTexdisAllow (k : Nat) : Bool
/-- `DISP_ORIGIN` after an accepted thaw: any value (R309, U5; log 5). -/
opaque Config.thawDispOrigin (k : Nat) : BitVec 19
/-- `HRANGE` after an accepted thaw: any value (R309, U5; log 5). -/
opaque Config.thawHrange (k : Nat) : BitVec 24
/-- `VRANGE` after an accepted thaw: any value (R309, U5; log 5). -/
opaque Config.thawVrange (k : Nat) : BitVec 20
/-- `READBACK` after an accepted thaw: any value (R309, U5; log 5). -/
opaque Config.thawReadback (k : Nat) : Word

end Sys2Proof
end

