-- ==== Sys2Proof/Syntax.lean ====
section
/-!
DEFINITION. Syntax.lean: the operands that the word formats of spec/30_encoding.md R101 carry, and `Instr`, one constructor per
mnemonic of spec/opcode_table.json. The id of a rendering command is an operand of it where a rule reads it: several ids share a mnemonic (R109).
Bits the spec says are ignored (R114) are no field, but for a control word, which `CTRLHIST` keeps whole (R45, R270).
-/

namespace Sys2Proof

/-- The two command channels (spec/00_scope.md R17): GP0 rendering/data, GP1 control. -/
inductive Channel where
  | gp0
  | gp1
  deriving DecidableEq, Repr

/-- The fields of a `VTX` word (R101): two 11-bit two's-complement coordinates (R132). -/
structure Vtx where
  x : BitVec 11
  y : BitVec 11
  deriving DecidableEq, Repr

/-- The texture coordinates of a `UVC`, `UVP` or `UV` word (R101, R137). -/
structure Uv where
  u : BitVec 8
  v : BitVec 8
  deriving DecidableEq, Repr

/-- The fields of a `POS` word (R101, R141): a VRAM column and row. -/
structure Pos where
  x : BitVec 10
  y : BitVec 9
  deriving DecidableEq, Repr

/-- The fields of a `WH` word (R101, R135): the raw width and height. -/
structure Size where
  w : BitVec 10
  h : BitVec 9
  deriving DecidableEq, Repr

/-- A command of either channel, its operands cut from its words (R102, R111).
Which ids select a named rendering command is the table's to say (R8, R108), so a command carries the id that selected it, bits 31:24 of
its first word, where a rule reads it (log 3): whole as `id`; in a polygon, a tile or a sprite as `idHigh` and `idLow`, whose bits 1 and
0 are `semi` and `raw` (R109); in a line as `idHigh`, `semi` and `b0`. `mirror` of a control command is bits 31:30 of its word
(R271), `band` of `cGpuinfo` bits 27:24, and `p` its operand, bits 23:0. -/
inductive Instr where
  /-- `FILL` (R201). -/
  | fill (c : Colour) (dst : Pos) (size : Size)
  /-- `IRQ1` (R227). -/
  | irq1
  /-- `POLY_F3` (R151). -/
  | polyF3 (idHigh : BitVec 6) (idLow : BitVec 2) (c : Colour) (v0 v1 v2 : Vtx)
  /-- `POLY_FT3` (R152). -/
  | polyFT3 (idHigh : BitVec 6) (idLow : BitVec 2) (c : Colour) (v0 : Vtx) (t0 : Uv) (clut : BitVec 16) (v1 : Vtx) (t1 : Uv) (tpage : BitVec 16) (v2 : Vtx) (t2 : Uv)
  /-- `POLY_F4` (R153). -/
  | polyF4 (idHigh : BitVec 6) (idLow : BitVec 2) (c : Colour) (v0 v1 v2 v3 : Vtx)
  /-- `POLY_FT4` (R154). -/
  | polyFT4 (idHigh : BitVec 6) (idLow : BitVec 2) (c : Colour) (v0 : Vtx) (t0 : Uv) (clut : BitVec 16) (v1 : Vtx) (t1 : Uv) (tpage : BitVec 16) (v2 : Vtx) (t2 : Uv) (v3 : Vtx) (t3 : Uv)
  /-- `POLY_G3` (R155). -/
  | polyG3 (idHigh : BitVec 6) (idLow : BitVec 2) (c0 : Colour) (v0 : Vtx) (c1 : Colour) (v1 : Vtx) (c2 : Colour) (v2 : Vtx)
  /-- `POLY_GT3` (R156). -/
  | polyGT3 (idHigh : BitVec 6) (idLow : BitVec 2) (c0 : Colour) (v0 : Vtx) (t0 : Uv) (clut : BitVec 16) (c1 : Colour) (v1 : Vtx) (t1 : Uv) (tpage : BitVec 16) (c2 : Colour) (v2 : Vtx) (t2 : Uv)
  /-- `POLY_G4` (R157). -/
  | polyG4 (idHigh : BitVec 6) (idLow : BitVec 2) (c0 : Colour) (v0 : Vtx) (c1 : Colour) (v1 : Vtx) (c2 : Colour) (v2 : Vtx) (c3 : Colour) (v3 : Vtx)
  /-- `POLY_GT4` (R158). -/
  | polyGT4 (idHigh : BitVec 6) (idLow : BitVec 2) (c0 : Colour) (v0 : Vtx) (t0 : Uv) (clut : BitVec 16) (c1 : Colour) (v1 : Vtx) (t1 : Uv) (tpage : BitVec 16) (c2 : Colour) (v2 : Vtx) (t2 : Uv) (c3 : Colour) (v3 : Vtx) (t3 : Uv)
  /-- `LINE_F2` (R171). -/
  | lineF2 (idHigh : BitVec 6) (semi b0 : Bool) (c : Colour) (v0 v1 : Vtx)
  /-- `PLINE_F` (R173). -/
  | plineF (idHigh : BitVec 6) (semi b0 : Bool) (c : Colour) (vs : List Vtx) (terminated : Bool)
  /-- `LINE_G2` (R172). -/
  | lineG2 (idHigh : BitVec 6) (semi b0 : Bool) (c0 : Colour) (v0 : Vtx) (c1 : Colour) (v1 : Vtx)
  /-- `PLINE_G` (R174). -/
  | plineG (idHigh : BitVec 6) (semi b0 : Bool) (cvs : List (Colour × Vtx)) (terminated : Bool)
  /-- `TILE` (R181). -/
  | tile (idHigh : BitVec 6) (idLow : BitVec 2) (c : Colour) (pos : Vtx) (size : Size)
  /-- `SPRT` (R182). -/
  | sprt (idHigh : BitVec 6) (idLow : BitVec 2) (c : Colour) (pos : Vtx) (uv : Uv) (clut : BitVec 16) (size : Size)
  /-- `TILE_1` (R183). -/
  | tile1 (idHigh : BitVec 6) (idLow : BitVec 2) (c : Colour) (pos : Vtx)
  /-- `SPRT_1` (R184). -/
  | sprt1 (idHigh : BitVec 6) (idLow : BitVec 2) (c : Colour) (pos : Vtx) (uv : Uv) (clut : BitVec 16)
  /-- `TILE_8` (R185). -/
  | tile8 (idHigh : BitVec 6) (idLow : BitVec 2) (c : Colour) (pos : Vtx)
  /-- `SPRT_8` (R186). -/
  | sprt8 (idHigh : BitVec 6) (idLow : BitVec 2) (c : Colour) (pos : Vtx) (uv : Uv) (clut : BitVec 16)
  /-- `TILE_16` (R187). -/
  | tile16 (idHigh : BitVec 6) (idLow : BitVec 2) (c : Colour) (pos : Vtx)
  /-- `SPRT_16` (R188). -/
  | sprt16 (idHigh : BitVec 6) (idLow : BitVec 2) (c : Colour) (pos : Vtx) (uv : Uv) (clut : BitVec 16)
  /-- `MOVE` (R202). -/
  | move (id : BitVec 8) (src dst : Pos) (size : Size)
  /-- `LOAD` (R204). -/
  | load (id : BitVec 8) (dst : Pos) (size : Size)
  /-- `STORE` (R206). -/
  | store (id : BitVec 8) (src : Pos) (size : Size)
  /-- `TEXPAGE` (R221). -/
  | texpage (mode : BitVec 11) (texDisable : Bool) (flip : BitVec 2)
  /-- `TEXWIN` (R222). -/
  | texwin (window : BitVec 20)
  /-- `DRAWAREA_TL` (R223). -/
  | drawareaTL (corner : BitVec 19)
  /-- `DRAWAREA_BR` (R224). -/
  | drawareaBR (corner : BitVec 19)
  /-- `DRAWOFS` (R225). -/
  | drawofs (offset : BitVec 22)
  /-- `MASKSET` (R226). -/
  | maskset (md me : Bool)
  /-- `C_RESET` (R272). -/
  | cReset (mirror : BitVec 2) (p : BitVec 24)
  /-- `C_CLEARFIFO` (R273). -/
  | cClearfifo (mirror : BitVec 2) (p : BitVec 24)
  /-- `C_ACKIRQ` (R274). -/
  | cAckirq (mirror : BitVec 2) (p : BitVec 24)
  /-- `C_DISPEN` (R275). -/
  | cDispen (mirror : BitVec 2) (p : BitVec 24)
  /-- `C_DMADIR` (R276). -/
  | cDmadir (mirror : BitVec 2) (p : BitVec 24)
  /-- `C_DISPORG` (R277). -/
  | cDisporg (mirror : BitVec 2) (p : BitVec 24)
  /-- `C_HRANGE` (R278). -/
  | cHrange (mirror : BitVec 2) (p : BitVec 24)
  /-- `C_VRANGE` (R279). -/
  | cVrange (mirror : BitVec 2) (p : BitVec 24)
  /-- `C_DISPMODE` (R280). -/
  | cDispmode (mirror : BitVec 2) (p : BitVec 24)
  /-- `C_TEXDIS` (R281). -/
  | cTexdis (mirror : BitVec 2) (p : BitVec 24)
  /-- `C_GPUINFO` (R283). -/
  | cGpuinfo (mirror : BitVec 2) (band : BitVec 4) (p : BitVec 24)
  -- The unknown rendering ids, one word each, discarded (R110).
  | unknown00 | unknown01 | unknown03 | unknown04 | unknown05 | unknown06 | unknown07 | unknown08 | unknown09 | unknown0A
  | unknown0B | unknown0C | unknown0D | unknown0E | unknown0F | unknown10 | unknown11 | unknown12 | unknown13 | unknown14
  | unknown15 | unknown16 | unknown17 | unknown18 | unknown19 | unknown1A | unknown1B | unknown1C | unknown1D | unknown1E
  | unknown81 | unknown82 | unknown83 | unknown84 | unknown85 | unknown86 | unknown87 | unknown88 | unknown89 | unknown8A
  | unknown8B | unknown8C | unknown8D | unknown8E | unknown8F | unknown90 | unknown91 | unknown92 | unknown93 | unknown94
  | unknown95 | unknown96 | unknown97 | unknown98 | unknown99 | unknown9A | unknown9B | unknown9C | unknown9D | unknown9E
  | unknown9F | unknownA1 | unknownA2 | unknownA3 | unknownA4 | unknownA5 | unknownA6 | unknownA7 | unknownA8 | unknownA9
  | unknownAA | unknownAB | unknownAC | unknownAD | unknownAE | unknownAF | unknownB0 | unknownB1 | unknownB2 | unknownB3
  | unknownB4 | unknownB5 | unknownB6 | unknownB7 | unknownB8 | unknownB9 | unknownBA | unknownBB | unknownBC | unknownBD
  | unknownBE | unknownBF | unknownC1 | unknownC2 | unknownC3 | unknownC4 | unknownC5 | unknownC6 | unknownC7 | unknownC8
  | unknownC9 | unknownCA | unknownCB | unknownCC | unknownCD | unknownCE | unknownCF | unknownD0 | unknownD1 | unknownD2
  | unknownD3 | unknownD4 | unknownD5 | unknownD6 | unknownD7 | unknownD8 | unknownD9 | unknownDA | unknownDB | unknownDC
  | unknownDD | unknownDE | unknownDF | unknownE0 | unknownE7 | unknownE8 | unknownE9 | unknownEA | unknownEB | unknownEC
  | unknownED | unknownEE | unknownEF | unknownF0 | unknownF1 | unknownF2 | unknownF3 | unknownF4 | unknownF5 | unknownF6
  | unknownF7 | unknownF8 | unknownF9 | unknownFA | unknownFB | unknownFC | unknownFD | unknownFE | unknownFF
  -- The unknown control ids, recorded in the history only (R282).
  | cUnknown0A (mirror : BitVec 2) (p : BitVec 24)
  | cUnknown0B (mirror : BitVec 2) (p : BitVec 24)
  | cUnknown0C (mirror : BitVec 2) (p : BitVec 24)
  | cUnknown0D (mirror : BitVec 2) (p : BitVec 24)
  | cUnknown0E (mirror : BitVec 2) (p : BitVec 24)
  | cUnknown0F (mirror : BitVec 2) (p : BitVec 24)
  | cUnknown20 (mirror : BitVec 2) (p : BitVec 24)
  | cUnknown21 (mirror : BitVec 2) (p : BitVec 24)
  | cUnknown22 (mirror : BitVec 2) (p : BitVec 24)
  | cUnknown23 (mirror : BitVec 2) (p : BitVec 24)
  | cUnknown24 (mirror : BitVec 2) (p : BitVec 24)
  | cUnknown25 (mirror : BitVec 2) (p : BitVec 24)
  | cUnknown26 (mirror : BitVec 2) (p : BitVec 24)
  | cUnknown27 (mirror : BitVec 2) (p : BitVec 24)
  | cUnknown28 (mirror : BitVec 2) (p : BitVec 24)
  | cUnknown29 (mirror : BitVec 2) (p : BitVec 24)
  | cUnknown2A (mirror : BitVec 2) (p : BitVec 24)
  | cUnknown2B (mirror : BitVec 2) (p : BitVec 24)
  | cUnknown2C (mirror : BitVec 2) (p : BitVec 24)
  | cUnknown2D (mirror : BitVec 2) (p : BitVec 24)
  | cUnknown2E (mirror : BitVec 2) (p : BitVec 24)
  | cUnknown2F (mirror : BitVec 2) (p : BitVec 24)
  | cUnknown30 (mirror : BitVec 2) (p : BitVec 24)
  | cUnknown31 (mirror : BitVec 2) (p : BitVec 24)
  | cUnknown32 (mirror : BitVec 2) (p : BitVec 24)
  | cUnknown33 (mirror : BitVec 2) (p : BitVec 24)
  | cUnknown34 (mirror : BitVec 2) (p : BitVec 24)
  | cUnknown35 (mirror : BitVec 2) (p : BitVec 24)
  | cUnknown36 (mirror : BitVec 2) (p : BitVec 24)
  | cUnknown37 (mirror : BitVec 2) (p : BitVec 24)
  | cUnknown38 (mirror : BitVec 2) (p : BitVec 24)
  | cUnknown39 (mirror : BitVec 2) (p : BitVec 24)
  | cUnknown3A (mirror : BitVec 2) (p : BitVec 24)
  | cUnknown3B (mirror : BitVec 2) (p : BitVec 24)
  | cUnknown3C (mirror : BitVec 2) (p : BitVec 24)
  | cUnknown3D (mirror : BitVec 2) (p : BitVec 24)
  | cUnknown3E (mirror : BitVec 2) (p : BitVec 24)
  | cUnknown3F (mirror : BitVec 2) (p : BitVec 24)
  deriving DecidableEq, Repr

end Sys2Proof
end

