-- ==== Sys2Proof/Decode.lean ====
section
/-!
DEFINITION. Decode.lean: the field readers of spec/40_field_readers.md, the default parameters of spec/00_scope.md R8 with the dispatch
table of spec/30_encoding.md R108, the test of a configuration (R8, U16), the length rule R113, the decoder of both channels, and
after it the encoder. A decoder reads a stream of words and answers the first command of it and the words after it, or refuses by
name.
-/

namespace Sys2Proof

/-! ### Field readers (R131 to R141) -/

/-- `CmdId(w) = w[31:24]` (R131). -/
def cmdId (w : Word) : BitVec 8 := w.extractLsb' 24 8

/-- Bits 7:2 of the id. -/
def idHigh (w : Word) : BitVec 6 := w.extractLsb' 26 6

/-- Bits 1:0 of the id: `semi` and `raw` of a polygon, a tile or a sprite (R109). -/
def idLow (w : Word) : BitVec 2 := w.extractLsb' 24 2

/-- The id of a line from the fields of its command: `semi` is bit 1, and bit 0 has no meaning (R109). -/
def lineId (high : BitVec 6) (semi b0 : Bool) : BitVec 8 := high ++ (BitVec.ofBool semi ++ BitVec.ofBool b0)

/-- `Colour24(w) = w[23:0]` (R134). -/
def colour24 (w : Word) : Colour := w.extractLsb' 0 24

/-- The fields of a vertex word: X in bits 10:0, Y in bits 26:16 (R132). -/
def vtxOf (w : Word) : Vtx := ⟨w.extractLsb' 0 11, w.extractLsb' 16 11⟩

/-- `sext_11` of a coordinate field (R10, R132). -/
def sext11 (f : BitVec 11) : Int := f.toInt

/-- `VtxX(w) = sext_11(w[10:0])` (R132). -/
def vtxX (w : Word) : Int := sext11 (vtxOf w).x

/-- `VtxY(w) = sext_11(w[26:16])` (R132). -/
def vtxY (w : Word) : Int := sext11 (vtxOf w).y

/-- The size word: `SizeW(w) = w[9:0]`, `SizeH(w) = w[24:16]` (R135). -/
def sizeFieldsOf (w : Word) : Size := ⟨w.extractLsb' 0 10, w.extractLsb' 16 9⟩

/-- The position word: `PosX(w) = w[9:0]`, `PosY(w) = w[24:16]` (R141). -/
def posOf (w : Word) : Pos := ⟨w.extractLsb' 0 10, w.extractLsb' 16 9⟩

/-- `TexU(w) = w[7:0]`, `TexV(w) = w[15:8]` (R137). -/
def uvOf (w : Word) : Uv := ⟨w.extractLsb' 0 8, w.extractLsb' 8 8⟩

/-- `ClutRaw(w) = TpageRaw(w) = w[31:16]`: the high half-word of a texture word (R138, R139). -/
def highHalf (w : Word) : BitVec 16 := w.extractLsb' 16 16

/-- `IsTerm(w) = ((w AND 0xF000F000) = 0x50005000)` (R140). -/
def isTerm (w : Word) : Bool := w &&& 0xF000F000#32 == 0x50005000#32

/-! ### The default parameters (R8, R108) -/

/-- One row of R108: the ids `lo` to `hi` have this entry, `none` for length class 0. -/
structure DispatchRow where
  lo : Nat
  hi : Nat
  entry : Option DispatchEntry
  deriving DecidableEq, Repr

/-- The rows 0x00 to 0x3F of R108. -/
def dispatchRowsPolygon : List DispatchRow :=
  [⟨0x00, 0x01, none⟩,
   ⟨0x02, 0x02, some ⟨.fixed 3, .fill⟩⟩,
   ⟨0x03, 0x1E, none⟩,
   ⟨0x1F, 0x1F, some ⟨.fixed 1, .irq1⟩⟩,
   ⟨0x20, 0x23, some ⟨.fixed 4, .polyF3⟩⟩,
   ⟨0x24, 0x27, some ⟨.fixed 7, .polyFT3⟩⟩,
   ⟨0x28, 0x2B, some ⟨.fixed 5, .polyF4⟩⟩,
   ⟨0x2C, 0x2F, some ⟨.fixed 9, .polyFT4⟩⟩,
   ⟨0x30, 0x33, some ⟨.fixed 6, .polyG3⟩⟩,
   ⟨0x34, 0x37, some ⟨.fixed 9, .polyGT3⟩⟩,
   ⟨0x38, 0x3B, some ⟨.fixed 8, .polyG4⟩⟩,
   ⟨0x3C, 0x3F, some ⟨.fixed 12, .polyGT4⟩⟩]

/-- The rows 0x40 to 0x7F of R108. -/
def dispatchRowsLineRect : List DispatchRow :=
  [⟨0x40, 0x47, some ⟨.fixed 3, .lineF2⟩⟩,
   ⟨0x48, 0x4F, some ⟨.varF, .plineF⟩⟩,
   ⟨0x50, 0x57, some ⟨.fixed 4, .lineG2⟩⟩,
   ⟨0x58, 0x5F, some ⟨.varG, .plineG⟩⟩,
   ⟨0x60, 0x63, some ⟨.fixed 3, .tile⟩⟩,
   ⟨0x64, 0x67, some ⟨.fixed 4, .sprt⟩⟩,
   ⟨0x68, 0x6B, some ⟨.fixed 2, .tile1⟩⟩,
   ⟨0x6C, 0x6F, some ⟨.fixed 3, .sprt1⟩⟩,
   ⟨0x70, 0x73, some ⟨.fixed 2, .tile8⟩⟩,
   ⟨0x74, 0x77, some ⟨.fixed 3, .sprt8⟩⟩,
   ⟨0x78, 0x7B, some ⟨.fixed 2, .tile16⟩⟩,
   ⟨0x7C, 0x7F, some ⟨.fixed 3, .sprt16⟩⟩]

/-- The rows 0x80 to 0xFF of R108. -/
def dispatchRowsTransferAttribute : List DispatchRow :=
  [⟨0x80, 0x80, some ⟨.fixed 4, .move⟩⟩,
   ⟨0x81, 0x9F, none⟩,
   ⟨0xA0, 0xA0, some ⟨.fixed 3, .load⟩⟩,
   ⟨0xA1, 0xBF, none⟩,
   ⟨0xC0, 0xC0, some ⟨.fixed 3, .store⟩⟩,
   ⟨0xC1, 0xE0, none⟩,
   ⟨0xE1, 0xE1, some ⟨.fixed 1, .texpage⟩⟩,
   ⟨0xE2, 0xE2, some ⟨.fixed 1, .texwin⟩⟩,
   ⟨0xE3, 0xE3, some ⟨.fixed 1, .drawareaTL⟩⟩,
   ⟨0xE4, 0xE4, some ⟨.fixed 1, .drawareaBR⟩⟩,
   ⟨0xE5, 0xE5, some ⟨.fixed 1, .drawofs⟩⟩,
   ⟨0xE6, 0xE6, some ⟨.fixed 1, .maskset⟩⟩,
   ⟨0xE7, 0xFF, none⟩]

/-- The rows of R108, from id 0x00 to 0xFF without a gap. -/
def dispatchRows : List DispatchRow :=
  dispatchRowsPolygon ++ dispatchRowsLineRect ++ dispatchRowsTransferAttribute

/-- The 256 entries that rows without a gap give. -/
def expandRows (rows : List DispatchRow) : List (Option DispatchEntry) :=
  rows.flatMap fun r => List.replicate (r.hi + 1 - r.lo) r.entry

/-- The default `DISPATCH` (R8, R108; decision D3). -/
def defaultDispatch : Vector (Option DispatchEntry) 256 := ⟨⟨expandRows dispatchRows⟩, by decide +kernel⟩

/-- The defaults of R8. -/
def Config.default : Config where
  dispatch := defaultDispatch
  dispWidthLut := #v[256, 320, 512, 640, 368, 368, 368, 368]
  dispHeightLut := #v[240, 480, 256, 512]
  fakeBusyReads := 0
  freezeVersion := 1
  gpuVersionWord := 2
  polyTexpageWriteback := false
  resetClearsAssembler := true
  fillXAlign16 := true
  skipLo := 0x20
  skipHi := 0x7F
  transferMirrors := false

/-! ### Looking an id up -/

/-- The 256 entries by id, with what `GP0_TRANSFER_MIRRORS` changes: the ids 0x81-0x9F, 0xA1-0xBF, 0xC1-0xDF take the entries of 0x80,
0xA0, 0xC0 (R108). -/
def Config.table (c : Config) : List (Option DispatchEntry) :=
  if c.transferMirrors then
    c.dispatch.toList.zipIdx.map fun (e, n) =>
      if 0x81 ≤ n && n ≤ 0x9F then c.dispatch[0x80]
      else if 0xA1 ≤ n && n ≤ 0xBF then c.dispatch[0xA0]
      else if 0xC1 ≤ n && n ≤ 0xDF then c.dispatch[0xC0]
      else e
  else c.dispatch.toList

/-- `DISPATCH[id]` (R242); `none` for an unknown id. -/
def Config.entry (c : Config) (id : BitVec 8) : Option DispatchEntry := c.table.getD id.toNat none

/-! ### The configurations a model accepts (R8, U16) -/

/-- The line handlers, which alone may have a variable length (R8). -/
def Handler.isLine (h : Handler) : Bool := h ∈ [Handler.lineF2, .plineF, .lineG2, .plineG]

/-- An entry is well-formed: a fixed length in 1..256, a variable length for a line handler only (R8). A fixed length 0 with a handler
is what R8 forbids of an entry of length 0. -/
def DispatchEntry.wf (e : DispatchEntry) : Bool :=
  match e.length with
  | .fixed n => 1 ≤ n && n ≤ 256
  | .varF => e.handler.isLine
  | .varG => e.handler.isLine

/-- `DISPATCH` is well-formed (R8). -/
def Config.tableWf (c : Config) : Bool := c.dispatch.toList.all fun e => e.all DispatchEntry.wf

/-- `Skippable(id)` (R251). -/
def Config.skippable (c : Config) (id : BitVec 8) : Bool := c.skipLo ≤ id && id ≤ c.skipHi

/-- The handlers that change state other than `OUT`: fill, transfers, the IRQ1 request and the attribute-set commands (U16). The
texture-page write-back of a textured polygon is not meant: R159 itself says that a skipped polygon leaves it out (log 8). -/
def Handler.lasting (h : Handler) : Bool :=
  h ∈ [Handler.fill, .irq1, .move, .load, .store, .texpage, .texwin, .drawareaTL, .drawareaBR, .drawofs, .maskset]

/-- No id of the skippable range has a handler with a lasting effect (U16; log 8). -/
def Config.skipWf (c : Config) : Bool :=
  c.table.zipIdx.all fun (e, n) => !(e.any fun e => e.handler.lasting) || !c.skippable (BitVec.ofNat 8 n)

/-- The configurations a model accepts: R8 has an ill-formed table refused, U16 a skippable range that covers a lasting effect. -/
def Config.wf (c : Config) : Bool := c.tableWf && c.skipWf

/-- `MaxLen` of a length class (R254). -/
def LengthClass.max : LengthClass → Nat
  | .fixed n => n
  | .varF => 254
  | .varG => 255

/-- `MaxLen(DISPATCH[id])` (R254); 0 for an unknown id. -/
def Config.maxLen (c : Config) (id : BitVec 8) : Nat :=
  match c.entry id with
  | none => 0
  | some e => e.length.max

/-! ### Where a command ends (R113, R244 to R247) -/

/-- `TermF` of R245: the word at index `k` ends a mono poly-line. -/
def termF (k : Nat) (w : Word) : Bool := 3 ≤ k && isTerm w

/-- `TermG` of R246: the word at index `k` ends a shaded poly-line, colour slots only. -/
def termG (k : Nat) (w : Word) : Bool := 4 ≤ k && k % 2 == 0 && isTerm w

/-- `CheckComplete` of R244 for the word `w` just stored at index `k` (so `BUFCNT = k + 1`): `none` keeps accumulating, `some t`
dispatches with `terminated = t`. The terminator is tested before the maximum (R247). -/
def checkComplete (l : LengthClass) (k : Nat) (w : Word) : Option Bool :=
  match l with
  | .fixed n => if k + 1 = n then some false else none
  | .varF => if termF k w then some true else if k + 1 = 254 then some false else none
  | .varG => if termG k w then some true else if k + 1 = 255 then some false else none

/-- Cut one command off a stream whose first word has index `k`: its words, `terminated`, and the words after it. -/
def frame (l : LengthClass) : Nat → List Word → Option (List Word × Bool × List Word)
  | _, [] => none
  | k, w :: rest =>
    match checkComplete l k w with
    | some t => some ([w], t, rest)
    | none =>
      match frame l (k + 1) rest with
      | some (ws, t, after) => some (w :: ws, t, after)
      | none => none

/-! ### From words to commands -/

/-- The (colour, vertex) pairs of a shaded poly-line; a last word with no vertex after it is in none (R174). -/
def colourVertexPairs : List Word → List (Colour × Vtx)
  | c :: v :: rest => (colour24 c, vtxOf v) :: colourVertexPairs rest
  | _ => []

/-- The length class R102 gives a handler. -/
def Handler.length : Handler → LengthClass
  | .irq1 | .texpage | .texwin | .drawareaTL | .drawareaBR | .drawofs | .maskset => .fixed 1
  | .tile1 | .tile8 | .tile16 => .fixed 2
  | .fill | .lineF2 | .tile | .sprt1 | .sprt8 | .sprt16 | .load | .store => .fixed 3
  | .polyF3 | .lineG2 | .sprt | .move => .fixed 4
  | .polyF4 => .fixed 5
  | .polyG3 => .fixed 6
  | .polyFT3 => .fixed 7
  | .polyG4 => .fixed 8
  | .polyFT4 | .polyGT3 => .fixed 9
  | .polyGT4 => .fixed 12
  | .plineF => .varF
  | .plineG => .varG

/-- The number of words a handler reads; a poly-line reads what there is after the first (R102, R173, R174). -/
def Handler.words (h : Handler) : Nat :=
  match h.length with
  | .fixed n => n
  | .varF => 1
  | .varG => 1

/-- The command that handler `h` reads from the words `ws` of a complete buffer, or of a longer one (R102, R173, R174). -/
def assemble (h : Handler) (terminated : Bool) (ws : List Word) : Instr :=
  let w (k : Nat) : Word := ws.getD k 0
  let id := cmdId (w 0)
  let ih := idHigh (w 0)
  let il := idLow (w 0)
  let semi := (w 0).getLsbD 25
  let b0 := (w 0).getLsbD 24
  let c (k : Nat) := colour24 (w k)
  let v (k : Nat) := vtxOf (w k)
  let t (k : Nat) := uvOf (w k)
  let hi (k : Nat) := highHalf (w k)
  let p := colour24 (w 0)
  match h with
  | .fill => .fill (c 0) (posOf (w 1)) (sizeFieldsOf (w 2))
  | .irq1 => .irq1
  | .polyF3 => .polyF3 ih il (c 0) (v 1) (v 2) (v 3)
  | .polyFT3 => .polyFT3 ih il (c 0) (v 1) (t 2) (hi 2) (v 3) (t 4) (hi 4) (v 5) (t 6)
  | .polyF4 => .polyF4 ih il (c 0) (v 1) (v 2) (v 3) (v 4)
  | .polyFT4 => .polyFT4 ih il (c 0) (v 1) (t 2) (hi 2) (v 3) (t 4) (hi 4) (v 5) (t 6) (v 7) (t 8)
  | .polyG3 => .polyG3 ih il (c 0) (v 1) (c 2) (v 3) (c 4) (v 5)
  | .polyGT3 => .polyGT3 ih il (c 0) (v 1) (t 2) (hi 2) (c 3) (v 4) (t 5) (hi 5) (c 6) (v 7) (t 8)
  | .polyG4 => .polyG4 ih il (c 0) (v 1) (c 2) (v 3) (c 4) (v 5) (c 6) (v 7)
  | .polyGT4 => .polyGT4 ih il (c 0) (v 1) (t 2) (hi 2) (c 3) (v 4) (t 5) (hi 5) (c 6) (v 7) (t 8) (c 9) (v 10) (t 11)
  | .lineF2 => .lineF2 ih semi b0 (c 0) (v 1) (v 2)
  | .plineF =>
    .plineF ih semi b0 (c 0) ((if terminated then ws.tail.dropLast else ws.tail).map vtxOf) terminated
  | .lineG2 => .lineG2 ih semi b0 (c 0) (v 1) (c 2) (v 3)
  | .plineG => .plineG ih semi b0 (colourVertexPairs ws.dropLast) terminated
  | .tile => .tile ih il (c 0) (v 1) (sizeFieldsOf (w 2))
  | .sprt => .sprt ih il (c 0) (v 1) (t 2) (hi 2) (sizeFieldsOf (w 3))
  | .tile1 => .tile1 ih il (c 0) (v 1)
  | .sprt1 => .sprt1 ih il (c 0) (v 1) (t 2) (hi 2)
  | .tile8 => .tile8 ih il (c 0) (v 1)
  | .sprt8 => .sprt8 ih il (c 0) (v 1) (t 2) (hi 2)
  | .tile16 => .tile16 ih il (c 0) (v 1)
  | .sprt16 => .sprt16 ih il (c 0) (v 1) (t 2) (hi 2)
  | .move => .move id (posOf (w 1)) (posOf (w 2)) (sizeFieldsOf (w 3))
  | .load => .load id (posOf (w 1)) (sizeFieldsOf (w 2))
  | .store => .store id (posOf (w 1)) (sizeFieldsOf (w 2))
  | .texpage => .texpage (p.extractLsb' 0 11) (p.getLsbD 11) (p.extractLsb' 12 2)
  | .texwin => .texwin (p.extractLsb' 0 20)
  | .drawareaTL => .drawareaTL (p.extractLsb' 0 19)
  | .drawareaBR => .drawareaBR (p.extractLsb' 0 19)
  | .drawofs => .drawofs (p.extractLsb' 0 22)
  | .maskset => .maskset (p.getLsbD 0) (p.getLsbD 1)

/-- The unknown rendering ids below 0x80 (R110). -/
def unknownRowsLow : List (Nat × Instr) :=
  [(0x00, .unknown00), (0x01, .unknown01), (0x03, .unknown03), (0x04, .unknown04), (0x05, .unknown05), (0x06, .unknown06),
   (0x07, .unknown07), (0x08, .unknown08), (0x09, .unknown09), (0x0A, .unknown0A), (0x0B, .unknown0B), (0x0C, .unknown0C),
   (0x0D, .unknown0D), (0x0E, .unknown0E), (0x0F, .unknown0F), (0x10, .unknown10), (0x11, .unknown11), (0x12, .unknown12),
   (0x13, .unknown13), (0x14, .unknown14), (0x15, .unknown15), (0x16, .unknown16), (0x17, .unknown17), (0x18, .unknown18),
   (0x19, .unknown19), (0x1A, .unknown1A), (0x1B, .unknown1B), (0x1C, .unknown1C), (0x1D, .unknown1D), (0x1E, .unknown1E)]

/-- The unknown rendering ids 0x80 to 0xBF (R110). -/
def unknownRowsMiddle : List (Nat × Instr) :=
  [(0x81, .unknown81), (0x82, .unknown82), (0x83, .unknown83), (0x84, .unknown84), (0x85, .unknown85), (0x86, .unknown86),
   (0x87, .unknown87), (0x88, .unknown88), (0x89, .unknown89), (0x8A, .unknown8A), (0x8B, .unknown8B), (0x8C, .unknown8C),
   (0x8D, .unknown8D), (0x8E, .unknown8E), (0x8F, .unknown8F), (0x90, .unknown90), (0x91, .unknown91), (0x92, .unknown92),
   (0x93, .unknown93), (0x94, .unknown94), (0x95, .unknown95), (0x96, .unknown96), (0x97, .unknown97), (0x98, .unknown98),
   (0x99, .unknown99), (0x9A, .unknown9A), (0x9B, .unknown9B), (0x9C, .unknown9C), (0x9D, .unknown9D), (0x9E, .unknown9E),
   (0x9F, .unknown9F), (0xA1, .unknownA1), (0xA2, .unknownA2), (0xA3, .unknownA3), (0xA4, .unknownA4), (0xA5, .unknownA5),
   (0xA6, .unknownA6), (0xA7, .unknownA7), (0xA8, .unknownA8), (0xA9, .unknownA9), (0xAA, .unknownAA), (0xAB, .unknownAB),
   (0xAC, .unknownAC), (0xAD, .unknownAD), (0xAE, .unknownAE), (0xAF, .unknownAF), (0xB0, .unknownB0), (0xB1, .unknownB1),
   (0xB2, .unknownB2), (0xB3, .unknownB3), (0xB4, .unknownB4), (0xB5, .unknownB5), (0xB6, .unknownB6), (0xB7, .unknownB7),
   (0xB8, .unknownB8), (0xB9, .unknownB9), (0xBA, .unknownBA), (0xBB, .unknownBB), (0xBC, .unknownBC), (0xBD, .unknownBD),
   (0xBE, .unknownBE), (0xBF, .unknownBF)]

/-- The unknown rendering ids from 0xC0 (R110). -/
def unknownRowsHigh : List (Nat × Instr) :=
  [(0xC1, .unknownC1), (0xC2, .unknownC2), (0xC3, .unknownC3), (0xC4, .unknownC4), (0xC5, .unknownC5), (0xC6, .unknownC6),
   (0xC7, .unknownC7), (0xC8, .unknownC8), (0xC9, .unknownC9), (0xCA, .unknownCA), (0xCB, .unknownCB), (0xCC, .unknownCC),
   (0xCD, .unknownCD), (0xCE, .unknownCE), (0xCF, .unknownCF), (0xD0, .unknownD0), (0xD1, .unknownD1), (0xD2, .unknownD2),
   (0xD3, .unknownD3), (0xD4, .unknownD4), (0xD5, .unknownD5), (0xD6, .unknownD6), (0xD7, .unknownD7), (0xD8, .unknownD8),
   (0xD9, .unknownD9), (0xDA, .unknownDA), (0xDB, .unknownDB), (0xDC, .unknownDC), (0xDD, .unknownDD), (0xDE, .unknownDE),
   (0xDF, .unknownDF), (0xE0, .unknownE0), (0xE7, .unknownE7), (0xE8, .unknownE8), (0xE9, .unknownE9), (0xEA, .unknownEA),
   (0xEB, .unknownEB), (0xEC, .unknownEC), (0xED, .unknownED), (0xEE, .unknownEE), (0xEF, .unknownEF), (0xF0, .unknownF0),
   (0xF1, .unknownF1), (0xF2, .unknownF2), (0xF3, .unknownF3), (0xF4, .unknownF4), (0xF5, .unknownF5), (0xF6, .unknownF6),
   (0xF7, .unknownF7), (0xF8, .unknownF8), (0xF9, .unknownF9), (0xFA, .unknownFA), (0xFB, .unknownFB), (0xFC, .unknownFC),
   (0xFD, .unknownFD), (0xFE, .unknownFE), (0xFF, .unknownFF)]

/-- The command an unknown id is: one word, whatever its operand bits (R110). Only the ids that R108 leaves unknown have a mnemonic. -/
def unknownInstr (id : BitVec 8) : Option Instr :=
  (unknownRowsLow ++ unknownRowsMiddle ++ unknownRowsHigh).lookup id.toNat

/-- Why the decoder refuses (log 18). -/
inductive DecodeError where
  /-- there is no word -/
  | empty
  /-- the stream ends before the command does -/
  | truncated
  /-- the table gives the id fewer words than its handler reads: the command is not all in the stream (log 26) -/
  | shortEntry
  /-- the id is unknown under the table and has no mnemonic, since R108 knows it -/
  | unlistedUnknown
  deriving DecidableEq, Repr

/-- The first command of a rendering-channel stream under a table and the words after it (R100, R102, R110, R113). -/
def decodeGP0 (c : Config) (stream : List Word) : Except DecodeError (Instr × List Word) :=
  match stream with
  | [] => .error .empty
  | w :: rest =>
    match c.entry (cmdId w) with
    | none =>
      match unknownInstr (cmdId w) with
      | some i => .ok (i, rest)
      | none => .error .unlistedUnknown
    | some e =>
      match frame e.length 0 stream with
      | none => .error .truncated
      | some (ws, terminated, after) =>
        if e.handler.words ≤ ws.length then .ok (assemble e.handler terminated ws, after) else .error .shortEntry

/-! ### The control channel (R111, R112, R271) -/

/-- `Canonical(rawid)`: ids from 0x40 fall on 0x00..0x3F, and 0x10..0x1F on 0x10 (R271). -/
def canonical (rawid : BitVec 8) : BitVec 8 :=
  let cid := rawid &&& 0x3F#8
  if 0x10#8 ≤ cid ∧ cid ≤ 0x1F#8 then 0x10#8 else cid

/-- The control command of a canonical id, from bits 31:30 and 27:24 of its word and its operand. -/
abbrev ControlRow := BitVec 2 → BitVec 4 → BitVec 24 → Instr

/-- The canonical ids 0x00 to 0x1F of R112; those above 0x10 are in the GPU-info band. -/
def controlRowsLow : List ControlRow :=
  [fun m _ p => .cReset m p, fun m _ p => .cClearfifo m p, fun m _ p => .cAckirq m p, fun m _ p => .cDispen m p,
   fun m _ p => .cDmadir m p, fun m _ p => .cDisporg m p, fun m _ p => .cHrange m p, fun m _ p => .cVrange m p,
   fun m _ p => .cDispmode m p, fun m _ p => .cTexdis m p, fun m _ p => .cUnknown0A m p, fun m _ p => .cUnknown0B m p,
   fun m _ p => .cUnknown0C m p, fun m _ p => .cUnknown0D m p, fun m _ p => .cUnknown0E m p, fun m _ p => .cUnknown0F m p,
   Instr.cGpuinfo, Instr.cGpuinfo, Instr.cGpuinfo, Instr.cGpuinfo, Instr.cGpuinfo, Instr.cGpuinfo, Instr.cGpuinfo,
   Instr.cGpuinfo, Instr.cGpuinfo, Instr.cGpuinfo, Instr.cGpuinfo, Instr.cGpuinfo, Instr.cGpuinfo, Instr.cGpuinfo,
   Instr.cGpuinfo, Instr.cGpuinfo]

/-- The canonical ids 0x20 to 0x3F of R112, all unknown. -/
def controlRowsHigh : List ControlRow :=
  [fun m _ p => .cUnknown20 m p, fun m _ p => .cUnknown21 m p, fun m _ p => .cUnknown22 m p, fun m _ p => .cUnknown23 m p,
   fun m _ p => .cUnknown24 m p, fun m _ p => .cUnknown25 m p, fun m _ p => .cUnknown26 m p, fun m _ p => .cUnknown27 m p,
   fun m _ p => .cUnknown28 m p, fun m _ p => .cUnknown29 m p, fun m _ p => .cUnknown2A m p, fun m _ p => .cUnknown2B m p,
   fun m _ p => .cUnknown2C m p, fun m _ p => .cUnknown2D m p, fun m _ p => .cUnknown2E m p, fun m _ p => .cUnknown2F m p,
   fun m _ p => .cUnknown30 m p, fun m _ p => .cUnknown31 m p, fun m _ p => .cUnknown32 m p, fun m _ p => .cUnknown33 m p,
   fun m _ p => .cUnknown34 m p, fun m _ p => .cUnknown35 m p, fun m _ p => .cUnknown36 m p, fun m _ p => .cUnknown37 m p,
   fun m _ p => .cUnknown38 m p, fun m _ p => .cUnknown39 m p, fun m _ p => .cUnknown3A m p, fun m _ p => .cUnknown3B m p,
   fun m _ p => .cUnknown3C m p, fun m _ p => .cUnknown3D m p, fun m _ p => .cUnknown3E m p, fun m _ p => .cUnknown3F m p]

/-- The control opcode map by canonical id, R112. -/
def controlRows : List ControlRow := controlRowsLow ++ controlRowsHigh

theorem canonical_lt (rawid : BitVec 8) : (canonical rawid).toNat < controlRows.length := by
  revert rawid; decide

/-- The command of a control word; every word is one (R111, R271). -/
def decodeGP1 (w : Word) : Instr :=
  (controlRows[(canonical (cmdId w)).toNat]'(canonical_lt (cmdId w))) (w.extractLsb' 30 2)
    (w.extractLsb' 24 4) (colour24 w)

/-- The decoder of a channel: the first command of a stream of words and the words after it, or a refusal. -/
def decode (c : Config) (ch : Channel) (stream : List Word) : Except DecodeError (Instr × List Word) :=
  match ch with
  | .gp0 => decodeGP0 c stream
  | .gp1 =>
    match stream with
    | [] => .error .empty
    | w :: rest => .ok (decodeGP1 w, rest)

/-! ### The encoder (R102, R115, R142) -/

/-- `EncCW(id, c24)` (R142). -/
def encCW (id : BitVec 8) (c : BitVec 24) : Word := id ++ c

/-- A colour word with its ignored bits zero. -/
def encCol (c : Colour) : Word := 0#8 ++ c

/-- A vertex word with its ignored bits zero. -/
def encVtx (v : Vtx) : Word := 0#5 ++ v.y ++ 0#5 ++ v.x

/-- `EncVtx(x, y)` on integers (R142). -/
def encVtxInt (x y : Int) : Word := encVtx ⟨BitVec.ofInt 11 x, BitVec.ofInt 11 y⟩

/-- `EncWH(w, h)` (R142). -/
def encWH (s : Size) : Word := 0#7 ++ s.h ++ 0#6 ++ s.w

/-- `EncPos(x, y)` (R142). -/
def encPos (p : Pos) : Word := 0#7 ++ p.y ++ 0#6 ++ p.x

/-- A texture-coordinate word with the half-word `hi` in bits 31:16. -/
def encUv (hi : BitVec 16) (t : Uv) : Word := hi ++ t.v ++ t.u

/-- The canonical termination word (R140). -/
def termWord : Word := 0x55555555#32

/-- The words of the vertices of a mono poly-line. -/
def encVertices (vs : List Vtx) : List Word := vs.map encVtx

/-- The words of the pairs of a shaded poly-line after its first colour. -/
def encPairs : List (Colour × Vtx) → List Word
  | [] => []
  | (c, v) :: rest => encCol c :: encVtx v :: encPairs rest

/-- A control word from its mirror bits, canonical id and operand (R111). -/
def encControl (mirror : BitVec 2) (cid : BitVec 6) (p : BitVec 24) : Word := mirror ++ cid ++ p

/-- The lowest id that the table gives handler `h` at its length of R102: the id of a command that carries none (log 21). -/
def Config.idOf (c : Config) (h : Handler) : BitVec 8 := BitVec.ofNat 8 (c.table.findIdx (· == some ⟨h.length, h⟩))

/-- The words of a command under a table, ignored bits zero, a terminated poly-line ended by `termWord`, a cut shaded one by a zero colour. -/
def encode (c : Config) : Instr → List Word
  | .fill colour dst size =>
    [encCW (c.idOf .fill) colour, encPos dst, encWH size]
  | .irq1 => [encCW (c.idOf .irq1) 0]
  | .polyF3 idHigh idLow c v0 v1 v2 =>
    [encCW (idHigh ++ idLow) c, encVtx v0, encVtx v1, encVtx v2]
  | .polyFT3 idHigh idLow c v0 t0 clut v1 t1 tpage v2 t2 =>
    [encCW (idHigh ++ idLow) c, encVtx v0, encUv clut t0, encVtx v1, encUv tpage t1, encVtx v2, encUv 0 t2]
  | .polyF4 idHigh idLow c v0 v1 v2 v3 =>
    [encCW (idHigh ++ idLow) c, encVtx v0, encVtx v1, encVtx v2, encVtx v3]
  | .polyFT4 idHigh idLow c v0 t0 clut v1 t1 tpage v2 t2 v3 t3 =>
    [encCW (idHigh ++ idLow) c, encVtx v0, encUv clut t0, encVtx v1, encUv tpage t1, encVtx v2, encUv 0 t2, encVtx v3, encUv 0 t3]
  | .polyG3 idHigh idLow c0 v0 c1 v1 c2 v2 =>
    [encCW (idHigh ++ idLow) c0, encVtx v0, encCol c1, encVtx v1, encCol c2, encVtx v2]
  | .polyGT3 idHigh idLow c0 v0 t0 clut c1 v1 t1 tpage c2 v2 t2 =>
    [encCW (idHigh ++ idLow) c0, encVtx v0, encUv clut t0, encCol c1, encVtx v1, encUv tpage t1, encCol c2, encVtx v2, encUv 0 t2]
  | .polyG4 idHigh idLow c0 v0 c1 v1 c2 v2 c3 v3 =>
    [encCW (idHigh ++ idLow) c0, encVtx v0, encCol c1, encVtx v1, encCol c2, encVtx v2, encCol c3, encVtx v3]
  | .polyGT4 idHigh idLow c0 v0 t0 clut c1 v1 t1 tpage c2 v2 t2 c3 v3 t3 =>
    [encCW (idHigh ++ idLow) c0, encVtx v0, encUv clut t0, encCol c1, encVtx v1, encUv tpage t1, encCol c2, encVtx v2, encUv 0 t2,
     encCol c3, encVtx v3, encUv 0 t3]
  | .lineF2 idHigh semi b0 c v0 v1 =>
    [encCW (lineId idHigh semi b0) c, encVtx v0, encVtx v1]
  | .plineF idHigh semi b0 c vs terminated =>
    encCW (lineId idHigh semi b0) c :: encVertices vs ++ (if terminated then [termWord] else [])
  | .lineG2 idHigh semi b0 c0 v0 c1 v1 =>
    [encCW (lineId idHigh semi b0) c0, encVtx v0, encCol c1, encVtx v1]
  | .plineG idHigh semi b0 cvs terminated =>
    match cvs with
    | [] => []
    | (c0, v0) :: rest =>
      encCW (lineId idHigh semi b0) c0 :: encVtx v0 :: encPairs rest ++ [if terminated then termWord else 0]
  | .tile idHigh idLow c pos size =>
    [encCW (idHigh ++ idLow) c, encVtx pos, encWH size]
  | .sprt idHigh idLow c pos uv clut size =>
    [encCW (idHigh ++ idLow) c, encVtx pos, encUv clut uv, encWH size]
  | .tile1 idHigh idLow c pos =>
    [encCW (idHigh ++ idLow) c, encVtx pos]
  | .sprt1 idHigh idLow c pos uv clut =>
    [encCW (idHigh ++ idLow) c, encVtx pos, encUv clut uv]
  | .tile8 idHigh idLow c pos =>
    [encCW (idHigh ++ idLow) c, encVtx pos]
  | .sprt8 idHigh idLow c pos uv clut =>
    [encCW (idHigh ++ idLow) c, encVtx pos, encUv clut uv]
  | .tile16 idHigh idLow c pos =>
    [encCW (idHigh ++ idLow) c, encVtx pos]
  | .sprt16 idHigh idLow c pos uv clut =>
    [encCW (idHigh ++ idLow) c, encVtx pos, encUv clut uv]
  | .move id src dst size =>
    [encCW id 0, encPos src, encPos dst, encWH size]
  | .load id dst size =>
    [encCW id 0, encPos dst, encWH size]
  | .store id src size =>
    [encCW id 0, encPos src, encWH size]
  | .texpage mode texDisable flip =>
    [encCW (c.idOf .texpage) (0#10 ++ flip ++ BitVec.ofBool texDisable ++ mode)]
  | .texwin window =>
    [encCW (c.idOf .texwin) (0#4 ++ window)]
  | .drawareaTL corner =>
    [encCW (c.idOf .drawareaTL) (0#5 ++ corner)]
  | .drawareaBR corner =>
    [encCW (c.idOf .drawareaBR) (0#5 ++ corner)]
  | .drawofs offset =>
    [encCW (c.idOf .drawofs) (0#2 ++ offset)]
  | .maskset md me =>
    [encCW (c.idOf .maskset) (0#22 ++ BitVec.ofBool me ++ BitVec.ofBool md)]
  | .cReset mirror p => [encControl mirror 0x00#6 p]
  | .cClearfifo mirror p => [encControl mirror 0x01#6 p]
  | .cAckirq mirror p => [encControl mirror 0x02#6 p]
  | .cDispen mirror p => [encControl mirror 0x03#6 p]
  | .cDmadir mirror p => [encControl mirror 0x04#6 p]
  | .cDisporg mirror p => [encControl mirror 0x05#6 p]
  | .cHrange mirror p => [encControl mirror 0x06#6 p]
  | .cVrange mirror p => [encControl mirror 0x07#6 p]
  | .cDispmode mirror p => [encControl mirror 0x08#6 p]
  | .cTexdis mirror p => [encControl mirror 0x09#6 p]
  | .cUnknown0A mirror p => [encControl mirror 0x0A#6 p]
  | .cUnknown0B mirror p => [encControl mirror 0x0B#6 p]
  | .cUnknown0C mirror p => [encControl mirror 0x0C#6 p]
  | .cUnknown0D mirror p => [encControl mirror 0x0D#6 p]
  | .cUnknown0E mirror p => [encControl mirror 0x0E#6 p]
  | .cUnknown0F mirror p => [encControl mirror 0x0F#6 p]
  | .cGpuinfo mirror band p => [encControl mirror (0b01#2 ++ band) p]
  | .cUnknown20 mirror p => [encControl mirror 0x20#6 p]
  | .cUnknown21 mirror p => [encControl mirror 0x21#6 p]
  | .cUnknown22 mirror p => [encControl mirror 0x22#6 p]
  | .cUnknown23 mirror p => [encControl mirror 0x23#6 p]
  | .cUnknown24 mirror p => [encControl mirror 0x24#6 p]
  | .cUnknown25 mirror p => [encControl mirror 0x25#6 p]
  | .cUnknown26 mirror p => [encControl mirror 0x26#6 p]
  | .cUnknown27 mirror p => [encControl mirror 0x27#6 p]
  | .cUnknown28 mirror p => [encControl mirror 0x28#6 p]
  | .cUnknown29 mirror p => [encControl mirror 0x29#6 p]
  | .cUnknown2A mirror p => [encControl mirror 0x2A#6 p]
  | .cUnknown2B mirror p => [encControl mirror 0x2B#6 p]
  | .cUnknown2C mirror p => [encControl mirror 0x2C#6 p]
  | .cUnknown2D mirror p => [encControl mirror 0x2D#6 p]
  | .cUnknown2E mirror p => [encControl mirror 0x2E#6 p]
  | .cUnknown2F mirror p => [encControl mirror 0x2F#6 p]
  | .cUnknown30 mirror p => [encControl mirror 0x30#6 p]
  | .cUnknown31 mirror p => [encControl mirror 0x31#6 p]
  | .cUnknown32 mirror p => [encControl mirror 0x32#6 p]
  | .cUnknown33 mirror p => [encControl mirror 0x33#6 p]
  | .cUnknown34 mirror p => [encControl mirror 0x34#6 p]
  | .cUnknown35 mirror p => [encControl mirror 0x35#6 p]
  | .cUnknown36 mirror p => [encControl mirror 0x36#6 p]
  | .cUnknown37 mirror p => [encControl mirror 0x37#6 p]
  | .cUnknown38 mirror p => [encControl mirror 0x38#6 p]
  | .cUnknown39 mirror p => [encControl mirror 0x39#6 p]
  | .cUnknown3A mirror p => [encControl mirror 0x3A#6 p]
  | .cUnknown3B mirror p => [encControl mirror 0x3B#6 p]
  | .cUnknown3C mirror p => [encControl mirror 0x3C#6 p]
  | .cUnknown3D mirror p => [encControl mirror 0x3D#6 p]
  | .cUnknown3E mirror p => [encControl mirror 0x3E#6 p]
  | .cUnknown3F mirror p => [encControl mirror 0x3F#6 p]
  | .unknown00 => [encCW 0x00#8 0]
  | .unknown01 => [encCW 0x01#8 0]
  | .unknown03 => [encCW 0x03#8 0]
  | .unknown04 => [encCW 0x04#8 0]
  | .unknown05 => [encCW 0x05#8 0]
  | .unknown06 => [encCW 0x06#8 0]
  | .unknown07 => [encCW 0x07#8 0]
  | .unknown08 => [encCW 0x08#8 0]
  | .unknown09 => [encCW 0x09#8 0]
  | .unknown0A => [encCW 0x0A#8 0]
  | .unknown0B => [encCW 0x0B#8 0]
  | .unknown0C => [encCW 0x0C#8 0]
  | .unknown0D => [encCW 0x0D#8 0]
  | .unknown0E => [encCW 0x0E#8 0]
  | .unknown0F => [encCW 0x0F#8 0]
  | .unknown10 => [encCW 0x10#8 0]
  | .unknown11 => [encCW 0x11#8 0]
  | .unknown12 => [encCW 0x12#8 0]
  | .unknown13 => [encCW 0x13#8 0]
  | .unknown14 => [encCW 0x14#8 0]
  | .unknown15 => [encCW 0x15#8 0]
  | .unknown16 => [encCW 0x16#8 0]
  | .unknown17 => [encCW 0x17#8 0]
  | .unknown18 => [encCW 0x18#8 0]
  | .unknown19 => [encCW 0x19#8 0]
  | .unknown1A => [encCW 0x1A#8 0]
  | .unknown1B => [encCW 0x1B#8 0]
  | .unknown1C => [encCW 0x1C#8 0]
  | .unknown1D => [encCW 0x1D#8 0]
  | .unknown1E => [encCW 0x1E#8 0]
  | .unknown81 => [encCW 0x81#8 0]
  | .unknown82 => [encCW 0x82#8 0]
  | .unknown83 => [encCW 0x83#8 0]
  | .unknown84 => [encCW 0x84#8 0]
  | .unknown85 => [encCW 0x85#8 0]
  | .unknown86 => [encCW 0x86#8 0]
  | .unknown87 => [encCW 0x87#8 0]
  | .unknown88 => [encCW 0x88#8 0]
  | .unknown89 => [encCW 0x89#8 0]
  | .unknown8A => [encCW 0x8A#8 0]
  | .unknown8B => [encCW 0x8B#8 0]
  | .unknown8C => [encCW 0x8C#8 0]
  | .unknown8D => [encCW 0x8D#8 0]
  | .unknown8E => [encCW 0x8E#8 0]
  | .unknown8F => [encCW 0x8F#8 0]
  | .unknown90 => [encCW 0x90#8 0]
  | .unknown91 => [encCW 0x91#8 0]
  | .unknown92 => [encCW 0x92#8 0]
  | .unknown93 => [encCW 0x93#8 0]
  | .unknown94 => [encCW 0x94#8 0]
  | .unknown95 => [encCW 0x95#8 0]
  | .unknown96 => [encCW 0x96#8 0]
  | .unknown97 => [encCW 0x97#8 0]
  | .unknown98 => [encCW 0x98#8 0]
  | .unknown99 => [encCW 0x99#8 0]
  | .unknown9A => [encCW 0x9A#8 0]
  | .unknown9B => [encCW 0x9B#8 0]
  | .unknown9C => [encCW 0x9C#8 0]
  | .unknown9D => [encCW 0x9D#8 0]
  | .unknown9E => [encCW 0x9E#8 0]
  | .unknown9F => [encCW 0x9F#8 0]
  | .unknownA1 => [encCW 0xA1#8 0]
  | .unknownA2 => [encCW 0xA2#8 0]
  | .unknownA3 => [encCW 0xA3#8 0]
  | .unknownA4 => [encCW 0xA4#8 0]
  | .unknownA5 => [encCW 0xA5#8 0]
  | .unknownA6 => [encCW 0xA6#8 0]
  | .unknownA7 => [encCW 0xA7#8 0]
  | .unknownA8 => [encCW 0xA8#8 0]
  | .unknownA9 => [encCW 0xA9#8 0]
  | .unknownAA => [encCW 0xAA#8 0]
  | .unknownAB => [encCW 0xAB#8 0]
  | .unknownAC => [encCW 0xAC#8 0]
  | .unknownAD => [encCW 0xAD#8 0]
  | .unknownAE => [encCW 0xAE#8 0]
  | .unknownAF => [encCW 0xAF#8 0]
  | .unknownB0 => [encCW 0xB0#8 0]
  | .unknownB1 => [encCW 0xB1#8 0]
  | .unknownB2 => [encCW 0xB2#8 0]
  | .unknownB3 => [encCW 0xB3#8 0]
  | .unknownB4 => [encCW 0xB4#8 0]
  | .unknownB5 => [encCW 0xB5#8 0]
  | .unknownB6 => [encCW 0xB6#8 0]
  | .unknownB7 => [encCW 0xB7#8 0]
  | .unknownB8 => [encCW 0xB8#8 0]
  | .unknownB9 => [encCW 0xB9#8 0]
  | .unknownBA => [encCW 0xBA#8 0]
  | .unknownBB => [encCW 0xBB#8 0]
  | .unknownBC => [encCW 0xBC#8 0]
  | .unknownBD => [encCW 0xBD#8 0]
  | .unknownBE => [encCW 0xBE#8 0]
  | .unknownBF => [encCW 0xBF#8 0]
  | .unknownC1 => [encCW 0xC1#8 0]
  | .unknownC2 => [encCW 0xC2#8 0]
  | .unknownC3 => [encCW 0xC3#8 0]
  | .unknownC4 => [encCW 0xC4#8 0]
  | .unknownC5 => [encCW 0xC5#8 0]
  | .unknownC6 => [encCW 0xC6#8 0]
  | .unknownC7 => [encCW 0xC7#8 0]
  | .unknownC8 => [encCW 0xC8#8 0]
  | .unknownC9 => [encCW 0xC9#8 0]
  | .unknownCA => [encCW 0xCA#8 0]
  | .unknownCB => [encCW 0xCB#8 0]
  | .unknownCC => [encCW 0xCC#8 0]
  | .unknownCD => [encCW 0xCD#8 0]
  | .unknownCE => [encCW 0xCE#8 0]
  | .unknownCF => [encCW 0xCF#8 0]
  | .unknownD0 => [encCW 0xD0#8 0]
  | .unknownD1 => [encCW 0xD1#8 0]
  | .unknownD2 => [encCW 0xD2#8 0]
  | .unknownD3 => [encCW 0xD3#8 0]
  | .unknownD4 => [encCW 0xD4#8 0]
  | .unknownD5 => [encCW 0xD5#8 0]
  | .unknownD6 => [encCW 0xD6#8 0]
  | .unknownD7 => [encCW 0xD7#8 0]
  | .unknownD8 => [encCW 0xD8#8 0]
  | .unknownD9 => [encCW 0xD9#8 0]
  | .unknownDA => [encCW 0xDA#8 0]
  | .unknownDB => [encCW 0xDB#8 0]
  | .unknownDC => [encCW 0xDC#8 0]
  | .unknownDD => [encCW 0xDD#8 0]
  | .unknownDE => [encCW 0xDE#8 0]
  | .unknownDF => [encCW 0xDF#8 0]
  | .unknownE0 => [encCW 0xE0#8 0]
  | .unknownE7 => [encCW 0xE7#8 0]
  | .unknownE8 => [encCW 0xE8#8 0]
  | .unknownE9 => [encCW 0xE9#8 0]
  | .unknownEA => [encCW 0xEA#8 0]
  | .unknownEB => [encCW 0xEB#8 0]
  | .unknownEC => [encCW 0xEC#8 0]
  | .unknownED => [encCW 0xED#8 0]
  | .unknownEE => [encCW 0xEE#8 0]
  | .unknownEF => [encCW 0xEF#8 0]
  | .unknownF0 => [encCW 0xF0#8 0]
  | .unknownF1 => [encCW 0xF1#8 0]
  | .unknownF2 => [encCW 0xF2#8 0]
  | .unknownF3 => [encCW 0xF3#8 0]
  | .unknownF4 => [encCW 0xF4#8 0]
  | .unknownF5 => [encCW 0xF5#8 0]
  | .unknownF6 => [encCW 0xF6#8 0]
  | .unknownF7 => [encCW 0xF7#8 0]
  | .unknownF8 => [encCW 0xF8#8 0]
  | .unknownF9 => [encCW 0xF9#8 0]
  | .unknownFA => [encCW 0xFA#8 0]
  | .unknownFB => [encCW 0xFB#8 0]
  | .unknownFC => [encCW 0xFC#8 0]
  | .unknownFD => [encCW 0xFD#8 0]
  | .unknownFE => [encCW 0xFE#8 0]
  | .unknownFF => [encCW 0xFF#8 0]

/-- The channel a command is sent on. -/
def Instr.channel : Instr → Channel
  | .cReset _ _ | .cClearfifo _ _ | .cAckirq _ _ | .cDispen _ _ | .cDmadir _ _ | .cDisporg _ _ | .cHrange _ _ | .cVrange _ _
  | .cDispmode _ _ | .cTexdis _ _ | .cGpuinfo _ _ _ | .cUnknown0A _ _ | .cUnknown0B _ _ | .cUnknown0C _ _ | .cUnknown0D _ _
  | .cUnknown0E _ _ | .cUnknown0F _ _ | .cUnknown20 _ _ | .cUnknown21 _ _ | .cUnknown22 _ _ | .cUnknown23 _ _
  | .cUnknown24 _ _ | .cUnknown25 _ _ | .cUnknown26 _ _ | .cUnknown27 _ _ | .cUnknown28 _ _ | .cUnknown29 _ _
  | .cUnknown2A _ _ | .cUnknown2B _ _ | .cUnknown2C _ _ | .cUnknown2D _ _ | .cUnknown2E _ _ | .cUnknown2F _ _
  | .cUnknown30 _ _ | .cUnknown31 _ _ | .cUnknown32 _ _ | .cUnknown33 _ _ | .cUnknown34 _ _ | .cUnknown35 _ _
  | .cUnknown36 _ _ | .cUnknown37 _ _ | .cUnknown38 _ _ | .cUnknown39 _ _ | .cUnknown3A _ _ | .cUnknown3B _ _
  | .cUnknown3C _ _ | .cUnknown3D _ _ | .cUnknown3E _ _ | .cUnknown3F _ _ => .gp1
  | .fill _ _ _ | .irq1 | .polyF3 _ _ _ _ _ _ | .polyFT3 _ _ _ _ _ _ _ _ _ _ _ | .polyF4 _ _ _ _ _ _ _
  | .polyFT4 _ _ _ _ _ _ _ _ _ _ _ _ _ | .polyG3 _ _ _ _ _ _ _ _ | .polyGT3 _ _ _ _ _ _ _ _ _ _ _ _ _
  | .polyG4 _ _ _ _ _ _ _ _ _ _ | .polyGT4 _ _ _ _ _ _ _ _ _ _ _ _ _ _ _ _ | .lineF2 _ _ _ _ _ _ | .plineF _ _ _ _ _ _
  | .lineG2 _ _ _ _ _ _ _ | .plineG _ _ _ _ _ | .tile _ _ _ _ _ | .sprt _ _ _ _ _ _ _ | .tile1 _ _ _ _ | .sprt1 _ _ _ _ _ _
  | .tile8 _ _ _ _ | .sprt8 _ _ _ _ _ _ | .tile16 _ _ _ _ | .sprt16 _ _ _ _ _ _ | .move _ _ _ _ | .load _ _ _ | .store _ _ _
  | .texpage _ _ _ | .texwin _ | .drawareaTL _ | .drawareaBR _ | .drawofs _ | .maskset _ _ | .unknown00 | .unknown01
  | .unknown03 | .unknown04 | .unknown05 | .unknown06 | .unknown07 | .unknown08 | .unknown09 | .unknown0A | .unknown0B
  | .unknown0C | .unknown0D | .unknown0E | .unknown0F | .unknown10 | .unknown11 | .unknown12 | .unknown13 | .unknown14
  | .unknown15 | .unknown16 | .unknown17 | .unknown18 | .unknown19 | .unknown1A | .unknown1B | .unknown1C | .unknown1D
  | .unknown1E | .unknown81 | .unknown82 | .unknown83 | .unknown84 | .unknown85 | .unknown86 | .unknown87 | .unknown88
  | .unknown89 | .unknown8A | .unknown8B | .unknown8C | .unknown8D | .unknown8E | .unknown8F | .unknown90 | .unknown91
  | .unknown92 | .unknown93 | .unknown94 | .unknown95 | .unknown96 | .unknown97 | .unknown98 | .unknown99 | .unknown9A
  | .unknown9B | .unknown9C | .unknown9D | .unknown9E | .unknown9F | .unknownA1 | .unknownA2 | .unknownA3 | .unknownA4
  | .unknownA5 | .unknownA6 | .unknownA7 | .unknownA8 | .unknownA9 | .unknownAA | .unknownAB | .unknownAC | .unknownAD
  | .unknownAE | .unknownAF | .unknownB0 | .unknownB1 | .unknownB2 | .unknownB3 | .unknownB4 | .unknownB5 | .unknownB6
  | .unknownB7 | .unknownB8 | .unknownB9 | .unknownBA | .unknownBB | .unknownBC | .unknownBD | .unknownBE | .unknownBF
  | .unknownC1 | .unknownC2 | .unknownC3 | .unknownC4 | .unknownC5 | .unknownC6 | .unknownC7 | .unknownC8 | .unknownC9
  | .unknownCA | .unknownCB | .unknownCC | .unknownCD | .unknownCE | .unknownCF | .unknownD0 | .unknownD1 | .unknownD2
  | .unknownD3 | .unknownD4 | .unknownD5 | .unknownD6 | .unknownD7 | .unknownD8 | .unknownD9 | .unknownDA | .unknownDB
  | .unknownDC | .unknownDD | .unknownDE | .unknownDF | .unknownE0 | .unknownE7 | .unknownE8 | .unknownE9 | .unknownEA
  | .unknownEB | .unknownEC | .unknownED | .unknownEE | .unknownEF | .unknownF0 | .unknownF1 | .unknownF2 | .unknownF3
  | .unknownF4 | .unknownF5 | .unknownF6 | .unknownF7 | .unknownF8 | .unknownF9 | .unknownFA | .unknownFB | .unknownFC
  | .unknownFD | .unknownFE | .unknownFF => .gp0

/-! ### The host's question -/

/-- Word `k` of an instruction whose bits are `w`, bit 0 the least significant bit of the first word. -/
def tableWord (w k : Nat) : Word := BitVec.ofNat 32 (w >>> (32 * k))

/-- The stream that an instruction of `nbits` bits `w` stands for: every bit above is 0, up to the longest command (255 words). -/
def tableStream (nbits w : Nat) : List Word := (List.range 255).map (tableWord (w % 2 ^ nbits))

/-- The command the rendering-channel decoder reads, under the default table, from a table row's bits (log 9: a row of either channel is
32 bits with no bit for the channel, and the bits are read as a GP0 word). -/
def decodeTableWord (nbits w : Nat) : Option Instr :=
  match decode Config.default .gp0 (tableStream nbits w) with
  | .ok (i, _) => some i
  | .error _ => none

end Sys2Proof
end

