-- ==== Sys2Proof/Machine/State.lean ====
section
/-!
DEFINITION. Machine/State.lean: the records that leave the block, the frame memory as plain data, every piece of state that
spec/10_state.md names, the port operations that are pending, and the state after `PowerOn()` (R53).
-/

namespace Sys2Proof.Machine

/-! ### What leaves the block -/

/-- The texture part of a polygon record (R150): one coordinate pair per vertex, the CLUT and texture-page fields as read. -/
structure PolyTexture where
  uv : List Uv
  clut : BitVec 16
  tpage : BitVec 16
  deriving DecidableEq, Repr

/-- `PolyRec` (R150). The record is textured exactly when `texture` is present. -/
structure PolyRec where
  id : BitVec 8
  nverts : Nat
  shaded : Bool
  textured : Bool
  semi : Bool
  raw : Bool
  v : List (Int × Int)
  c : List Colour
  texture : Option PolyTexture
  deriving DecidableEq, Repr

/-- `LineRec` (R170). `terminated` is present for poly-lines only. -/
structure LineRec where
  id : BitVec 8
  shaded : Bool
  poly : Bool
  semi : Bool
  n : Nat
  v : List (Int × Int)
  c : List Colour
  terminated : Option Bool
  deriving DecidableEq, Repr

/-- `RectRec` (R180). `uv` and `clut` are present for sprites only. -/
structure RectRec where
  id : BitVec 8
  textured : Bool
  semi : Bool
  raw : Bool
  sizeclass : BitVec 2
  c : Colour
  pos : Int × Int
  w : Nat
  h : Nat
  uv : Option Uv
  clut : Option (BitVec 16)
  deriving DecidableEq, Repr

/-- The kinds of an image record (R200). -/
inductive ImageKind where
  | fill
  | move
  | load
  | store
  deriving DecidableEq, Repr

/-- `ImageRec` (R200): `src` for Move and Store, `dst` for Fill, Move and Load, `c` for Fill, the size fields raw. -/
structure ImageRec where
  id : BitVec 8
  kind : ImageKind
  src : Option Pos
  dst : Option Pos
  size : Size
  c : Option Colour
  deriving DecidableEq, Repr

/-- A Primitive Record (R18). Attribute-set commands have none (R220, conflict C9). -/
inductive Record where
  | poly (r : PolyRec)
  | line (r : LineRec)
  | rect (r : RectRec)
  | image (r : ImageRec)
  deriving DecidableEq, Repr

/-- `Snapshot()` (R33). `mode` is `CSR[10:0]`. -/
structure Snapshot where
  mode : BitVec 11
  md : Bool
  me : Bool
  txd : Bool
  texflip : BitVec 2
  texwin : BitVec 20
  drawTl : BitVec 19
  drawBr : BitVec 19
  drawOfs : BitVec 22
  deriving DecidableEq, Repr

/-! ### Ports -/

/-- The port operations of R300. -/
inductive PortOp where
  | writeGP0 (w : Word)
  | writeGP1 (w : Word)
  | readStatus
  | readData
  | setFrameSkip (b : Bool)
  | writeStatusRaw (v : Word)
  | freeze
  | thaw (blob : List Byte)
  | powerOn
  deriving DecidableEq, Repr

/-- What a port operation returns (R300): the status word, the data word, the save-state record, whether a thaw was accepted. -/
inductive Reply where
  | status (v : Word)
  | data (v : Word)
  | frozen (blob : List Byte)
  | thawed (accepted : Bool)
  deriving DecidableEq, Repr

/-! ### Hidden modes and cursors -/

/-- `WMODE` (R41). -/
inductive WMode where
  | framing
  | passthrough
  deriving DecidableEq, Repr

/-- `RMODE` (R42). -/
inductive RMode where
  | normal
  | vramRead
  deriving DecidableEq, Repr

/-- The cursor registers of a transfer (R41, R42): origin, effective width and height, column and row offsets, words still to come. -/
structure Cursor where
  x0 : BitVec 10
  y0 : BitVec 9
  wid : Nat
  hgt : Nat
  col : Nat
  row : Nat
  rem : Nat
  deriving DecidableEq, Repr

/-- VRAM (R46, R70) as bytes of the image of R72: the listed bytes, by rising byte address, none of them equal to what its address
reads as when unlisted, which is the free value `Config.vramPowerOn epoch` (log 4). -/
structure Vram where
  epoch : Nat
  cells : List Host.Cell
  deriving DecidableEq, Repr

/-! ### The state -/

/-- All the state spec/10_state.md gives the block, its configuration (R8), and the model's own fields (`inputs`, `replies`,
`freeCount`). -/
structure State where
  /-- the parameters of R8, never changed by a step (log 2) -/
  cfg : Config
  /-- the Control/Status Register (R21, R22) -/
  csr : Word
  /-- texture window (R32) -/
  texwin : BitVec 20
  /-- drawing-area start (R32) -/
  drawTl : BitVec 19
  /-- drawing-area end (R32) -/
  drawBr : BitVec 19
  /-- drawing offset (R32) -/
  drawOfs : BitVec 22
  /-- rectangle flip X, Y (R32) -/
  texflip : BitVec 2
  /-- whether `TEXPAGE` may set `CSR.TXD` (R32) -/
  texdisAllow : Bool
  /-- display-area origin (R34) -/
  dispOrigin : BitVec 19
  /-- horizontal display range (R34) -/
  hrange : BitVec 24
  /-- vertical display range (R34) -/
  vrange : BitVec 20
  /-- the GPU-info value (R35) -/
  readback : Word
  /-- `CMDBUF[0..BUFCNT-1]` (R40, log 6) -/
  cmdbuf : List Word
  /-- write-transfer mode (R41) -/
  wmode : WMode
  /-- write-transfer cursor, live while `wmode` is `passthrough` (R41, log 7) -/
  wcur : Cursor
  /-- read-transfer mode (R42) -/
  rmode : RMode
  /-- read-transfer cursor, live while `rmode` is `vramRead` (R42, log 7) -/
  rcur : Cursor
  /-- the artificial-busy counter (R43) -/
  busycnt : Nat
  /-- the frame-skip input (R44) -/
  frameskip : Bool
  /-- the control history (R45) -/
  ctrlhist : Vector Word 256
  /-- the frame memory (R46) -/
  vram : Vram
  /-- `OUT`, oldest first (R13, R47) -/
  out : List (Record × Snapshot)
  /-- the model's: the port operations the host has pending, oldest first (log 1) -/
  inputs : List PortOp
  /-- the model's: what the ports returned, oldest first (log 11) -/
  replies : List Reply
  /-- the model's: the number of the next free value (logs 4, 5, 26) -/
  freeCount : Nat
  deriving DecidableEq, Repr

/-- `BUFCNT` (R40), the length of `CMDBUF`. -/
def State.bufcnt (s : State) : Nat := s.cmdbuf.length

/-- Why a step faults: never. "Nothing in this core throws/propagates user-visible errors" (R320): the block has no fault, so this
type has no constructor. Safe: the model adds no stop. -/
inductive Fault where
  deriving DecidableEq, Repr

/-- Why a step has no meaning. -/
inductive Refusal where
  /-- Raised by `exec` alone, for an instruction that has no meaning in the model yet. Safe. No arm uses it. -/
  | notModelled (mnemonic : String)
  /-- Raised by `step` when the dispatch table is ill-formed (R8) or the skippable range covers a command with a lasting effect (U16):
  `Config.wf`, log 8. Safe. -/
  | illFormedConfig
  /-- Raised by the assembler where the assertion of R243 fails: the buffer would exceed the maximum length of its id. The spec gives
  the block no meaning there (R324, U1), and no run from reset comes there. Safe. -/
  | assertionFailed
  deriving DecidableEq, Repr

/-- The outcome of a step of this machine. -/
abbrev Result := Host.Outcome State Fault Refusal

/-- A cursor while its transfer mode is off: dead, never read (R53, U3; log 7). -/
def Cursor.dead : Cursor := ⟨0, 0, 0, 0, 0, 0, 0⟩

/-- The reset value of `CSR`: DRDY, IDLE, DISPOFF and LCF set, all else 0 (R31). -/
def csrReset : Word := 0x14802000#32

/-- The reset value of `HRANGE` (R53). -/
def hrangeReset : BitVec 24 := 0xC00200#24

/-- The reset value of `VRANGE` (R53). -/
def vrangeReset : BitVec 20 := 0x40010#20

/-- The state after `PowerOn()` (R53, R310) with the default parameters (R8), nothing pending. -/
def State.reset : State where
  cfg := Config.default
  csr := csrReset
  texwin := 0
  drawTl := 0
  drawBr := 0
  drawOfs := 0
  texflip := 0
  texdisAllow := false
  dispOrigin := 0
  hrange := hrangeReset
  vrange := vrangeReset
  readback := 0
  cmdbuf := []
  wmode := .framing
  wcur := .dead
  rmode := .normal
  rcur := .dead
  busycnt := 0
  frameskip := false
  ctrlhist := Vector.replicate 256 0
  vram := ⟨0, []⟩
  out := []
  inputs := []
  replies := []
  freeCount := 1

end Sys2Proof.Machine
end

