-- ==== Sys2Proof/Machine/Operands.lean ====
section
/-!
DEFINITION. Machine/Operands.lean: the values that operands stand for (spec/40_field_readers.md R132 to R139), the size rules of
spec/20_memory.md R81, R82, R87, and the derived values of the context registers (spec/10_state.md R32, R34).
-/

namespace Sys2Proof.Machine

/-- The relative coordinates of a vertex, each in -1024..1023 (R132). -/
def vertex (v : Vtx) : Int × Int := (sext11 v.x, sext11 v.y)

/-- `To15(c)`: the top five bits of each channel, red lowest, bit 15 zero (R136, R143). -/
def to15 (c : Colour) : BitVec 16 :=
  (c.extractLsb' 3 5).setWidth 16 ||| ((c.extractLsb' 11 5).setWidth 16 <<< 5) ||| ((c.extractLsb' 19 5).setWidth 16 <<< 10)

/-- The red, green and blue channels of a colour (R134). -/
def channels (c : Colour) : BitVec 8 × BitVec 8 × BitVec 8 := (c.extractLsb' 0 8, c.extractLsb' 8 8, c.extractLsb' 16 8)

/-- `ClutX` of a CLUT field: its low six bits in steps of 16 (R138). -/
def clutX (clut : BitVec 16) : Nat := (clut.extractLsb' 0 6).toNat * 16

/-- `ClutY` of a CLUT field: bits 14:6 (R138). -/
def clutY (clut : BitVec 16) : Nat := (clut.extractLsb' 6 9).toNat

/-- The X base in texels of a texture-page field (R139). -/
def tpageX (p : BitVec 16) : Nat := (p.extractLsb' 0 4).toNat * 64

/-- The Y base in rows of a texture-page field (R139). -/
def tpageY (p : BitVec 16) : Nat := (p.extractLsb' 4 1).toNat * 256

/-- The semi-transparency mode of a texture-page field (R139). -/
def tpageAbr (p : BitVec 16) : BitVec 2 := p.extractLsb' 5 2

/-- The colour mode of a texture-page field (R139). -/
def tpageTpf (p : BitVec 16) : BitVec 2 := p.extractLsb' 7 2

/-- The texture-disable bit of a texture-page field (R139). -/
def tpageDisable (p : BitVec 16) : Bool := p.getLsbD 11

/-- `EffW(w)`: zero means the maximum (R81). -/
def effW (w : BitVec 10) : Nat := if w = 0 then 1024 else w.toNat

/-- `EffH(h)`: zero means the maximum (R81). -/
def effH (h : BitVec 9) : Nat := if h = 0 then 512 else h.toNat

/-- The width a fill covers, `(EffW(w) + 15) AND NOT 15` (R82). -/
def fillWidth (w : BitVec 10) : Nat := (effW w + 15) / 16 * 16

/-- The column a fill starts at: rounded down to a multiple of 16 under `FILL_X_ALIGN16` (R82). -/
def fillStart (align : Bool) (x : BitVec 10) : Nat := (if align then x &&& 0x3F0#10 else x).toNat

/-- `XferWords(w, h)` (R87). -/
def xferWords (size : Size) : Nat := (effW size.w * effH size.h + 1) / 2

/-- Mask X, mask Y, offset X, offset Y of `TEXWIN`, in steps of 8 texels (R32). -/
def texwinFields (v : BitVec 20) : BitVec 5 × BitVec 5 × BitVec 5 × BitVec 5 :=
  (v.extractLsb' 0 5, v.extractLsb' 5 5, v.extractLsb' 10 5, v.extractLsb' 15 5)

/-- The column and row of `DRAW_TL`, `DRAW_BR` and `DISP_ORIGIN` (R32, R34). -/
def cornerFields (v : BitVec 19) : BitVec 10 × BitVec 9 := (v.extractLsb' 0 10, v.extractLsb' 10 9)

/-- OX and OY of `DRAWOFS` (R32). -/
def drawOfsFields (v : BitVec 22) : Int × Int := (sext11 (v.extractLsb' 0 11), sext11 (v.extractLsb' 11 11))

/-- X1 and X2 of `HRANGE` (R34). -/
def hrangeFields (v : BitVec 24) : BitVec 12 × BitVec 12 := (v.extractLsb' 0 12, v.extractLsb' 12 12)

/-- Y1 and Y2 of `VRANGE` (R34). -/
def vrangeFields (v : BitVec 20) : BitVec 10 × BitVec 10 := (v.extractLsb' 0 10, v.extractLsb' 10 10)

end Sys2Proof.Machine
end

