-- ==== Sys2Proof/Machine/Flags.lean ====
section
/-!
DEFINITION. Machine/Flags.lean: the fields of the Control/Status Register (spec/10_state.md R22), their writes, the derived accessors
R23 to R28, and the interrupt line (spec/60_exceptions.md R326). A field is a pure derivation from the one 32-bit value (R21).
-/

namespace Sys2Proof.Machine

/-- `CSR` with bits `lo + n - 1` down to `lo` replaced by `f`, all other bits unchanged (R11). -/
def setBits (v : Word) (lo : Nat) {n : Nat} (f : BitVec n) : Word :=
  (v &&& ~~~((BitVec.allOnes n).setWidth 32 <<< lo)) ||| (f.setWidth 32 <<< lo)

/-- `CSR` with bit `i` replaced. -/
def setBit (v : Word) (i : Nat) (b : Bool) : Word := setBits v i (BitVec.ofBool b)

/-! ### The named fields (R22) -/

namespace Csr

/-- `TPX`, texture page X base, bits 3:0. -/
def tpx (v : Word) : BitVec 4 := v.extractLsb' 0 4
/-- `TPY`, texture page Y base, bit 4. -/
def tpy (v : Word) : Bool := v.getLsbD 4
/-- `ABR`, semi-transparency mode, bits 6:5. -/
def abr (v : Word) : BitVec 2 := v.extractLsb' 5 2
/-- `TPF`, colour mode, bits 8:7. -/
def tpf (v : Word) : BitVec 2 := v.extractLsb' 7 2
/-- `DTD`, dithering, bit 9. -/
def dtd (v : Word) : Bool := v.getLsbD 9
/-- `DFE`, draw to display area, bit 10. -/
def dfe (v : Word) : Bool := v.getLsbD 10
/-- `MD`, mask-apply, bit 11. -/
def md (v : Word) : Bool := v.getLsbD 11
/-- `ME`, mask-check, bit 12. -/
def me (v : Word) : Bool := v.getLsbD 12
/-- `LCF`, interlace-field, bit 13: no command drives it (R29). -/
def lcf (v : Word) : Bool := v.getLsbD 13
/-- `REV`, bit 14. -/
def rev (v : Word) : Bool := v.getLsbD 14
/-- `TXD`, texture disable, bit 15. -/
def txd (v : Word) : Bool := v.getLsbD 15
/-- `HRES2`, bit 16. -/
def hres2 (v : Word) : BitVec 1 := v.extractLsb' 16 1
/-- `HRES1`, bits 18:17. -/
def hres1 (v : Word) : BitVec 2 := v.extractLsb' 17 2
/-- `VRES`, interlace-height bit, bit 19. -/
def vres (v : Word) : BitVec 1 := v.extractLsb' 19 1
/-- `PAL`, video-standard bit, bit 20. -/
def pal (v : Word) : BitVec 1 := v.extractLsb' 20 1
/-- `C24`, colour depth of the display mode, bit 21. -/
def c24 (v : Word) : Bool := v.getLsbD 21
/-- `ILACE`, interlace, bit 22. -/
def ilace (v : Word) : Bool := v.getLsbD 22
/-- `DISPOFF`, display disabled, bit 23. -/
def dispoff (v : Word) : Bool := v.getLsbD 23
/-- `IRQ1`, bit 24. -/
def irq1 (v : Word) : Bool := v.getLsbD 24
/-- `DREQ`, bit 25: no command drives it (R29). -/
def dreq (v : Word) : Bool := v.getLsbD 25
/-- `IDLE`, GPU idle, bit 26. -/
def idle (v : Word) : Bool := v.getLsbD 26
/-- `VRDY`, ready for VRAM transfer to the host, bit 27. -/
def vrdy (v : Word) : Bool := v.getLsbD 27
/-- `DRDY`, ready for DMA, bit 28. -/
def drdy (v : Word) : Bool := v.getLsbD 28
/-- `DMADIR`, bits 30:29. -/
def dmadir (v : Word) : BitVec 2 := v.extractLsb' 29 2
/-- `ODD`, bit 31: no command drives it (R29). -/
def odd (v : Word) : Bool := v.getLsbD 31

/-- `CSR[10:0]`, the texture-page and draw-mode fields of the snapshot (R33). -/
def mode (v : Word) : BitVec 11 := v.extractLsb' 0 11

/-! ### Derived accessors -/

/-- Texture page X base in texels (R26). -/
def tpageBaseX (v : Word) : Nat := (tpx v).toNat * 64

/-- Texture page Y base in rows (R26). -/
def tpageBaseY (v : Word) : Nat := (tpy v).toNat * 256

/-- The key of the width table: the one-bit field is the high bit (R23). -/
def widthKey (v : Word) : BitVec 3 := hres2 v ++ hres1 v

/-- The key of the height table: the video standard is the high bit (R24). -/
def heightKey (v : Word) : BitVec 2 := pal v ++ vres v

/-- `DisplayWidth()` (R23). -/
def displayWidth (cfg : Config) (v : Word) : Nat := cfg.dispWidthLut[(widthKey v).toNat]'(widthKey v).isLt

/-- `DisplayHeight()` (R24). -/
def displayHeight (cfg : Config) (v : Word) : Nat := cfg.dispHeightLut[(heightKey v).toNat]'(heightKey v).isLt

end Csr

/-- The meaning of the colour-mode values (R26); value 3 is stored and reported and has no other meaning. -/
inductive ColourMode where
  | lookup4
  | lookup8
  | direct15
  | reserved3
  deriving DecidableEq, Repr

/-- The colour mode of a two-bit field (R26). -/
def colourMode (f : BitVec 2) : ColourMode :=
  if f = 0 then .lookup4 else if f = 1 then .lookup8 else if f = 2 then .direct15 else .reserved3

/-- The DMA directions in the order of their numbers (R25). -/
inductive DmaDirection where
  | off
  | fifoQuery
  | cpuToGpu
  | gpuToCpu
  deriving DecidableEq, Repr

/-- `DmaDirection()` (R25). -/
def dmaDirection (v : Word) : DmaDirection :=
  let f := Csr.dmadir v
  if f = 0 then .off else if f = 1 then .fifoQuery else if f = 2 then .cpuToGpu else .gpuToCpu

/-- The output `IRQ_OUT`: the level of `CSR.IRQ1` at all times (R326). -/
def State.irqOut (s : State) : Bool := Csr.irq1 s.csr

/-! ### Field writes of the commands -/

/-- `CSR[10:0] <- mode; CSR.TXD <- p[11] AND TEXDIS_ALLOW` (R221). -/
def csrTexpage (v : Word) (mode : BitVec 11) (txd : Bool) : Word := setBit (setBits v 0 mode) 15 txd

/-- `CSR[8:0] <- tpage[8:0]; CSR.TXD <- tpage[11] AND TEXDIS_ALLOW` (R159). -/
def csrPolyTexpage (v : Word) (tpage : BitVec 16) (allow : Bool) : Word :=
  setBit (setBits v 0 (tpage.extractLsb' 0 9)) 15 (tpageDisable tpage && allow)

/-- `CSR.MD <- md; CSR.ME <- me` (R226). -/
def csrMask (v : Word) (md me : Bool) : Word := setBit (setBit v 11 md) 12 me

/-- `CSR.VRDY <- b` (R206, R207, R273). -/
def csrVrdy (v : Word) (b : Bool) : Word := setBit v 27 b

/-- `CSR.IRQ1 <- b` (R227, R274). -/
def csrIrq1 (v : Word) (b : Bool) : Word := setBit v 24 b

/-- `DisplayMode(p)` (R280). -/
def csrDisplayMode (v : Word) (p : BitVec 24) : Word :=
  let v := setBits v 17 (p.extractLsb' 0 2)
  let v := setBit v 19 (p.getLsbD 2)
  let v := setBit v 20 (p.getLsbD 3)
  let v := setBit v 21 (p.getLsbD 4)
  let v := setBit v 22 (p.getLsbD 5)
  let v := setBit v 16 (p.getLsbD 6)
  setBit v 14 (p.getLsbD 7)

end Sys2Proof.Machine
end

