-- ==== Sys2Proof/Machine/Ops.lean ====
section
/-!
DEFINITION. Machine/Ops.lean: the operations the meanings share: VRAM bytes and texels (spec/20_memory.md R70 to R74), the masked
store R80, the four rectangle operations R82 to R85, `Emit` and `Snapshot` (spec/00_scope.md R13, spec/10_state.md R33), the transfer
words of spec/44_image_transfer.md R205 and R207, and `ClearFifo` (spec/47_control_channel.md R273). The block takes no exception
(spec/60_exceptions.md R329), so there is no operation that enters or leaves one.
-/

namespace Sys2Proof.Machine

/-! ### VRAM bytes -/

/-- The number of bytes of VRAM (R70). -/
def vramBytes : Nat := 1048576

/-- The byte at `a`, where an unlisted address reads as `d`. -/
def readCells (d : Nat → Byte) (a : Nat) : List Host.Cell → Byte
  | [] => d a
  | (k, b) :: cells => if k = a then b else readCells d a cells

/-- Store `b` at `a`, keeping addresses rising and leaving no entry equal to what its address reads as when unlisted. -/
def writeCells (d : Nat → Byte) (a : Nat) (b : Byte) : List Host.Cell → List Host.Cell
  | [] => if b = d a then [] else [(a, b)]
  | (k, c) :: cells =>
    if a < k then (if b = d a then (k, c) :: cells else (a, b) :: (k, c) :: cells)
    else if a = k then (if b = d a then cells else (a, b) :: cells)
    else (k, c) :: writeCells d a b cells

/-- What an unlisted address reads as: the free value of its power-on (R53, U2; log 4). -/
def Vram.unlisted (m : Vram) (a : Nat) : Byte := Config.vramPowerOn m.epoch a

/-- The byte at byte address `a` of the image of R72. -/
def Vram.readByte (m : Vram) (a : Nat) : Byte := readCells m.unlisted a m.cells

/-- VRAM with the byte at byte address `a` replaced. -/
def Vram.writeByte (m : Vram) (a : Nat) (b : Byte) : Vram := { m with cells := writeCells m.unlisted a b m.cells }

/-- The canonical form of VRAM: addresses strictly rising and inside the memory, no entry equal to its unlisted value. -/
abbrev Vram.wf (m : Vram) : Prop :=
  m.cells.Pairwise (fun p q => p.1 < q.1) ∧ ∀ c ∈ m.cells, c.1 < vramBytes ∧ c.2 ≠ m.unlisted c.1

/-! ### VRAM texels -/

/-- The byte address of the texel at (x mod 1024, y mod 512) (R12, R71, R72). -/
def texelAddr (x y : Nat) : Nat := 2 * (1024 * (y % 512) + x % 1024)

/-- `VramRead(x, y)`, little-endian (R12, R72). -/
def Vram.read (m : Vram) (x y : Nat) : BitVec 16 := m.readByte (texelAddr x y + 1) ++ m.readByte (texelAddr x y)

/-- `VramWrite(x, y, v)`, little-endian (R12, R72). -/
def Vram.write (m : Vram) (x y : Nat) (v : BitVec 16) : Vram :=
  (m.writeByte (texelAddr x y) (v.extractLsb' 0 8)).writeByte (texelAddr x y + 1) (v.extractLsb' 8 8)

/-- The texel a masked store leaves where it stores: bit 15 forced under mask-apply (R80). -/
def maskApplied (md : Bool) (v : BitVec 16) : BitVec 16 := if md then v ||| 0x8000#16 else v

/-- `VramWriteMasked(x, y, v)` under the mask policy in `csr` (R80). -/
def Vram.writeMasked (csr : Word) (m : Vram) (x y : Nat) (v : BitVec 16) : Vram :=
  if Csr.me csr && (m.read x y).getLsbD 15 then m else m.write x y (maskApplied (Csr.md csr) v)

/-! ### Rectangle operations -/

/-- `for i in 0 .. n-1: f i`, ascending. -/
def forUp {α : Type} : Nat → (Nat → α → α) → α → α
  | 0, _, m => m
  | n + 1, f, m => f n (forUp n f m)

/-- `for i in n-1 .. 0: f i`, descending. -/
def forDown {α : Type} : Nat → (Nat → α → α) → α → α
  | 0, _, m => m
  | n + 1, f, m => forDown n f (f n m)

/-- `fillRectangle` (R82). Every texel gets the same value, so the loop order cannot be observed (R82). -/
def fillRectangle (align : Bool) (dst : Pos) (size : Size) (c : BitVec 16) (m : Vram) : Vram :=
  forDown (effH size.h) (fun j m =>
    forDown (fillWidth size.w) (fun i m => m.write (fillStart align dst.x + i) (dst.y.toNat + j) c) m) m

/-- `copyRectangle` (R83): rows ascending, columns ascending, each texel read just before it is stored. -/
def copyRectangle (csr : Word) (src dst : Pos) (size : Size) (m : Vram) : Vram :=
  forUp (effH size.h) (fun j m =>
    forUp (effW size.w) (fun i m =>
      m.writeMasked csr (dst.x.toNat + i) (dst.y.toNat + j) (m.read (src.x.toNat + i) (src.y.toNat + j))) m) m

/-! ### Records -/

/-- `Snapshot()` (R33). -/
def State.snapshot (s : State) : Snapshot where
  mode := Csr.mode s.csr
  md := Csr.md s.csr
  me := Csr.me s.csr
  txd := Csr.txd s.csr
  texflip := s.texflip
  texwin := s.texwin
  drawTl := s.drawTl
  drawBr := s.drawBr
  drawOfs := s.drawOfs

/-- `Emit(rec)`: append the record with the snapshot of this moment (R13). -/
def State.emit (s : State) (r : Record) : State := { s with out := s.out ++ [(r, s.snapshot)] }

/-- `CSR <- v` (R11). -/
def State.withCsr (s : State) (v : Word) : State := { s with csr := v }

/-- The frame memory replaced. -/
def State.withVram (s : State) (m : Vram) : State := { s with vram := m }

/-- A port returns `r`. -/
def State.answer (s : State) (r : Reply) : State := { s with replies := s.replies ++ [r] }

/-! ### Transfers -/

/-- A cursor at the start of the rectangle (R204, R206). -/
def Cursor.start (pos : Pos) (size : Size) : Cursor := ⟨pos.x, pos.y, effW size.w, effH size.h, 0, 0, xferWords size⟩

/-- The next texel of the rectangle in raster order (R205, R207). -/
def Cursor.advance (c : Cursor) : Cursor :=
  if c.col + 1 = c.wid then { c with col := 0, row := c.row + 1 } else { c with col := c.col + 1 }

/-- The column of the cursor's texel, before wrapping. -/
def Cursor.x (c : Cursor) : Nat := c.x0.toNat + c.col

/-- The row of the cursor's texel, before wrapping. -/
def Cursor.y (c : Cursor) : Nat := c.y0.toNat + c.row

/-- The half-word step of R205: store a texel and advance, or drop it when the rectangle is full. -/
def State.storeHalf (s : State) (half : BitVec 16) : State :=
  if s.wcur.row < s.wcur.hgt then
    { s with vram := s.vram.writeMasked s.csr s.wcur.x s.wcur.y half, wcur := s.wcur.advance }
  else s

/-- `PassthroughWord(w)` (R205): two texels, low half first; the mode ends with the last word. -/
def State.passthroughWord (s : State) (w : Word) : State :=
  let t := (s.storeHalf (w.extractLsb' 0 16)).storeHalf (w.extractLsb' 16 16)
  { t with
    wcur := { t.wcur with rem := t.wcur.rem - 1 }
    wmode := if t.wcur.rem - 1 = 0 then .framing else t.wmode }

/-- The half-word step of R207: the texel at the cursor and the cursor after it; zero when the rectangle is read out. -/
def readHalf (m : Vram) (c : Cursor) : BitVec 16 × Cursor :=
  if c.row < c.hgt then (m.read c.x c.y, c.advance) else (0, c)

/-- `ReadTransferWord()` (R207): the word returned. -/
def State.readTransferWord (s : State) : Word :=
  (readHalf s.vram (readHalf s.vram s.rcur).2).1 ++ (readHalf s.vram s.rcur).1

/-- `ReadTransferWord()` (R207): the state after it; the last word closes the transfer and clears `VRDY`. -/
def State.afterReadTransfer (s : State) : State :=
  let c := (readHalf s.vram (readHalf s.vram s.rcur).2).2
  let s := { s with rcur := { c with rem := c.rem - 1 } }
  if c.rem - 1 = 0 then { s with rmode := .normal, csr := csrVrdy s.csr false } else s

/-! ### Control channel -/

/-- `CTRLHIST[rawid] <- w` for the control word of these bits (R45, R270). -/
def State.recordControl (s : State) (mirror : BitVec 2) (cid : BitVec 6) (p : BitVec 24) : State :=
  { s with ctrlhist := s.ctrlhist.set (mirror ++ cid).toNat (encControl mirror cid p) (mirror ++ cid).isLt }

/-- `ClearFifo()` (R273). -/
def State.clearFifo (s : State) : State :=
  { s with cmdbuf := [], wmode := .framing, rmode := .normal, csr := csrVrdy s.csr false }

/-- The context, display and status registers at their reset values (R272, R351). -/
def State.resetRegisters (s : State) : State :=
  { s with
    csr := csrReset, texwin := 0, drawTl := 0, drawBr := 0, drawOfs := 0, texflip := 0, texdisAllow := false,
    dispOrigin := 0, hrange := hrangeReset, vrange := vrangeReset }

/-- The value `C_GPUINFO` puts in `READBACK` for index `k`; an unlisted index leaves it (R283). -/
def State.gpuInfo (s : State) (k : BitVec 4) : Word :=
  if k = 2 then s.texwin.setWidth 32
  else if k = 3 then s.drawTl.setWidth 32
  else if k = 4 then s.drawBr.setWidth 32
  else if k = 5 then s.drawOfs.setWidth 32
  else if k = 7 then s.cfg.gpuVersionWord
  else s.readback

/-! ### The save-state record (R307 to R309) -/

/-- A 32-bit field, little-endian (R308). -/
def le32 (w : Word) : List Byte :=
  [w.extractLsb' 0 8, w.extractLsb' 8 8, w.extractLsb' 16 8, w.extractLsb' 24 8]

/-- The 32-bit field at byte offset `k` of a record (R308). -/
def wordAt (blob : List Byte) (k : Nat) : Word :=
  blob.getD (k + 3) 0 ++ blob.getD (k + 2) 0 ++ blob.getD (k + 1) 0 ++ blob.getD k 0

/-- The VRAM byte image (R72). -/
def Vram.image (m : Vram) : List Byte := (List.range vramBytes).map m.readByte

/-- The frame memory whose image is `bytes` (R309). -/
def Vram.ofImage (epoch : Nat) (bytes : List Byte) : Vram where
  epoch := epoch
  cells := bytes.zipIdx.filterMap fun (b, a) => if b = Config.vramPowerOn epoch a then none else some (a, b)

/-- The length of a record (R308). -/
def blobBytes : Nat := 1049608

/-- The record `Freeze()` returns (R308). -/
def State.blob (s : State) : List Byte :=
  le32 s.cfg.freezeVersion ++ le32 s.csr ++ s.ctrlhist.toList.flatMap le32 ++ s.vram.image

/-- Whether `Thaw` accepts a record: its length and its version (R309). -/
def State.accepts (s : State) (blob : List Byte) : Bool :=
  blob.length == blobBytes && wordAt blob 0 == s.cfg.freezeVersion

/-- The state after an accepted thaw (R309). The registers with no place in the record take free values (U5; log 5). -/
def State.restore (s : State) (blob : List Byte) : State :=
  { s with
    csr := wordAt blob 4
    ctrlhist := Vector.ofFn fun i : Fin 256 => wordAt blob (8 + 4 * i.val)
    vram := .ofImage s.vram.epoch (blob.drop 1032)
    cmdbuf := []
    wmode := .framing
    rmode := .normal
    busycnt := 0
    texwin := Config.thawTexwin s.freeCount
    drawTl := Config.thawDrawTl s.freeCount
    drawBr := Config.thawDrawBr s.freeCount
    drawOfs := Config.thawDrawOfs s.freeCount
    texflip := Config.thawTexflip s.freeCount
    texdisAllow := Config.thawTexdisAllow s.freeCount
    dispOrigin := Config.thawDispOrigin s.freeCount
    hrange := Config.thawHrange s.freeCount
    vrange := Config.thawVrange s.freeCount
    readback := Config.thawReadback s.freeCount
    freeCount := s.freeCount + 1 }

/-- `PowerOn()` (R310): every piece of state as R53 gives it, VRAM at fresh free values; the configuration, the host's pending
operations and the replies are not the block's state and stay (log 22). -/
def State.powerOn (s : State) : State :=
  { State.reset with
    cfg := s.cfg, inputs := s.inputs, replies := s.replies, vram := ⟨s.freeCount, []⟩, freeCount := s.freeCount + 1 }

end Sys2Proof.Machine
end

