-- ==== Sys2Proof/Machine/Attribute.lean ====
section
/-!
DEFINITION. Machine/Attribute.lean: the attribute-set commands (spec/45_attribute_set.md). None emits a record (R220), and none
reads its id (log 3).
-/

namespace Sys2Proof.Machine

/-- `TEXPAGE` (R221). `mode` is `p[10:0]`, `texDisable` `p[11]`, `flip` `p[13:12]`. -/
def execTexpage (mode : BitVec 11) (texDisable : Bool) (flip : BitVec 2) (s : State) : Result :=
  .next { s with csr := csrTexpage s.csr mode (texDisable && s.texdisAllow), texflip := flip }

/-- `TEXWIN` (R222). -/
def execTexwin (window : BitVec 20) (s : State) : Result := .next { s with texwin := window }

/-- `DRAWAREA_TL` (R223). -/
def execDrawareaTL (corner : BitVec 19) (s : State) : Result := .next { s with drawTl := corner }

/-- `DRAWAREA_BR` (R224). -/
def execDrawareaBR (corner : BitVec 19) (s : State) : Result := .next { s with drawBr := corner }

/-- `DRAWOFS` (R225). -/
def execDrawofs (offset : BitVec 22) (s : State) : Result := .next { s with drawOfs := offset }

/-- `MASKSET` (R226). -/
def execMaskset (md me : Bool) (s : State) : Result := .next (s.withCsr (csrMask s.csr md me))

/-- `IRQ1` (R227). -/
def execIrq1 (s : State) : Result := .next (s.withCsr (csrIrq1 s.csr true))

end Sys2Proof.Machine
end

