-- ==== Sys2Proof/Machine/Control.lean ====
section
/-!
DEFINITION. Machine/Control.lean: the named control-channel commands (spec/47_control_channel.md). Each records its word in the
history first (R270); `mirror` is bits 31:30 of the word and `p` its operand.
-/

namespace Sys2Proof.Machine

/-- `C_RESET` (R272, R351). -/
def execCReset (mirror : BitVec 2) (p : BitVec 24) (s : State) : Result :=
  let t := (s.recordControl mirror 0x00 p).resetRegisters
  let t := t.withCsr (csrDisplayMode t.csr 0)
  .next (if t.cfg.resetClearsAssembler then t.clearFifo else t)

/-- `C_CLEARFIFO` (R273). -/
def execCClearfifo (mirror : BitVec 2) (p : BitVec 24) (s : State) : Result :=
  .next (s.recordControl mirror 0x01 p).clearFifo

/-- `C_ACKIRQ` (R274). -/
def execCAckirq (mirror : BitVec 2) (p : BitVec 24) (s : State) : Result :=
  .next ((s.recordControl mirror 0x02 p).withCsr (csrIrq1 s.csr false))

/-- `C_DISPEN` (R275). -/
def execCDispen (mirror : BitVec 2) (p : BitVec 24) (s : State) : Result :=
  .next ((s.recordControl mirror 0x03 p).withCsr (setBit s.csr 23 (p.getLsbD 0)))

/-- `C_DMADIR` (R276). -/
def execCDmadir (mirror : BitVec 2) (p : BitVec 24) (s : State) : Result :=
  .next ((s.recordControl mirror 0x04 p).withCsr (setBits s.csr 29 (p.extractLsb' 0 2)))

/-- `C_DISPORG` (R277). -/
def execCDisporg (mirror : BitVec 2) (p : BitVec 24) (s : State) : Result :=
  .next { s.recordControl mirror 0x05 p with dispOrigin := p.extractLsb' 0 19 }

/-- `C_HRANGE` (R278). -/
def execCHrange (mirror : BitVec 2) (p : BitVec 24) (s : State) : Result :=
  .next { s.recordControl mirror 0x06 p with hrange := p }

/-- `C_VRANGE` (R279). -/
def execCVrange (mirror : BitVec 2) (p : BitVec 24) (s : State) : Result :=
  .next { s.recordControl mirror 0x07 p with vrange := p.extractLsb' 0 20 }

/-- `C_DISPMODE` (R280). -/
def execCDispmode (mirror : BitVec 2) (p : BitVec 24) (s : State) : Result :=
  .next ((s.recordControl mirror 0x08 p).withCsr (csrDisplayMode s.csr p))

/-- `C_TEXDIS` (R281): a switch set from the operand. -/
def execCTexdis (mirror : BitVec 2) (p : BitVec 24) (s : State) : Result :=
  .next { s.recordControl mirror 0x09 p with texdisAllow := p.getLsbD 0 }

/-- `C_GPUINFO` (R283); `band` is bits 27:24 of the word. -/
def execCGpuinfo (mirror : BitVec 2) (band : BitVec 4) (p : BitVec 24) (s : State) : Result :=
  .next { s.recordControl mirror (0b01#2 ++ band) p with readback := s.gpuInfo (p.extractLsb' 0 4) }

end Sys2Proof.Machine
end

