-- ==== Sys2Proof/Machine/Image.lean ====
section
/-!
DEFINITION. Machine/Image.lean: fill and image transfer (spec/44_image_transfer.md). Each emits its `ImageRec` after its own effect
(R200). The words a load takes and a store gives are `State.passthroughWord` and `State.readTransferWord` of Machine/Ops.lean.
-/

namespace Sys2Proof.Machine

/-- `FILL` (R201). Its record says 0x02 outright, whatever id the table gives the handler (R201; log 3). -/
def execFill (c : Colour) (dst : Pos) (size : Size) (s : State) : Result :=
  .next ((s.withVram (fillRectangle s.cfg.fillXAlign16 dst size (to15 c) s.vram)).emit
    (.image ⟨0x02, .fill, none, some dst, size, some c⟩))

/-- `MOVE` (R202). -/
def execMove (id : BitVec 8) (src dst : Pos) (size : Size) (s : State) : Result :=
  .next ((s.withVram (copyRectangle s.csr src dst size s.vram)).emit
    (.image ⟨id, .move, some src, some dst, size, none⟩))

/-- `LOAD` (R204): opens the pass-through of `XferWords` words. -/
def execLoad (id : BitVec 8) (dst : Pos) (size : Size) (s : State) : Result :=
  .next (State.emit { s with wcur := Cursor.start dst size, wmode := .passthrough }
    (.image ⟨id, .load, none, some dst, size, none⟩))

/-- `STORE` (R206): opens the read transfer of `XferWords` words, replacing an open one. -/
def execStore (id : BitVec 8) (src : Pos) (size : Size) (s : State) : Result :=
  .next (State.emit { s with rcur := Cursor.start src size, rmode := .vramRead, csr := csrVrdy s.csr true }
    (.image ⟨id, .store, some src, none, size, none⟩))

end Sys2Proof.Machine
end

