-- ==== Sys2Proof/Machine/Line.lean ====
section
/-!
DEFINITION. Machine/Line.lean: the line and poly-line commands (spec/42_line.md). Each emits one `LineRec` and changes nothing else.
-/

namespace Sys2Proof.Machine

/-- The record of a line or poly-line (R170): `semi` is id bit 1, and `terminated` is for poly-lines. -/
def lineRec (id : BitVec 8) (shaded : Bool) (cvs : List (Colour × Vtx)) (terminated : Option Bool) : LineRec where
  id := id
  shaded := shaded
  poly := terminated.isSome
  semi := id.getLsbD 1
  n := cvs.length
  v := cvs.map fun cv => vertex cv.2
  c := cvs.map fun cv => cv.1
  terminated := terminated

/-- `LINE_F2` (R171). -/
def execLineF2 (idHigh : BitVec 6) (semi b0 : Bool) (c : Colour) (v0 v1 : Vtx) (s : State) : Result :=
  .next (s.emit (.line (lineRec (lineId idHigh semi b0) false [(c, v0), (c, v1)] none)))

/-- `LINE_G2` (R172). -/
def execLineG2 (idHigh : BitVec 6) (semi b0 : Bool) (c0 : Colour) (v0 : Vtx) (c1 : Colour) (v1 : Vtx) (s : State) : Result :=
  .next (s.emit (.line (lineRec (lineId idHigh semi b0) true [(c0, v0), (c1, v1)] none)))

/-- `PLINE_F` (R173): every vertex has the colour of word 0. -/
def execPlineF (idHigh : BitVec 6) (semi b0 : Bool) (c : Colour) (vs : List Vtx) (terminated : Bool) (s : State) : Result :=
  .next (s.emit (.line (lineRec (lineId idHigh semi b0) false (vs.map fun v => (c, v)) (some terminated))))

/-- `PLINE_G` (R174). -/
def execPlineG (idHigh : BitVec 6) (semi b0 : Bool) (cvs : List (Colour × Vtx)) (terminated : Bool) (s : State) : Result :=
  .next (s.emit (.line (lineRec (lineId idHigh semi b0) true cvs (some terminated))))

end Sys2Proof.Machine
end

