-- ==== Sys2Proof/Machine/Polygon.lean ====
section
/-!
DEFINITION. Machine/Polygon.lean: the polygon commands (spec/41_polygon.md). Each emits one `PolyRec`; the textured ones write the
texture page back first when `POLY_TEXPAGE_WRITEBACK` is on (R159). Nothing else changes (R160).
-/

namespace Sys2Proof.Machine

/-- The write-back of R159, off by default. -/
def State.texpageWriteback (s : State) (tpage : BitVec 16) : State :=
  if s.cfg.polyTexpageWriteback then s.withCsr (csrPolyTexpage s.csr tpage s.texdisAllow) else s

/-- An untextured polygon's record (R150): `semi` and `raw` are id bits 1 and 0. -/
def plainPoly (id : BitVec 8) (shaded : Bool) (vs : List Vtx) (cs : List Colour) : PolyRec where
  id := id
  nverts := vs.length
  shaded := shaded
  textured := false
  semi := id.getLsbD 1
  raw := id.getLsbD 0
  v := vs.map vertex
  c := cs
  texture := none

/-- A textured polygon's record (R150): `semi` and `raw` are id bits 1 and 0. -/
def texturedPoly (id : BitVec 8) (shaded : Bool) (vs : List Vtx) (cs : List Colour) (uv : List Uv)
    (clut tpage : BitVec 16) : PolyRec where
  id := id
  nverts := vs.length
  shaded := shaded
  textured := true
  semi := id.getLsbD 1
  raw := id.getLsbD 0
  v := vs.map vertex
  c := cs
  texture := some ⟨uv, clut, tpage⟩

/-- The "declared word length" accessor of a polygon record (R150): the length of its dispatch entry. -/
def PolyRec.declaredLength (cfg : Config) (r : PolyRec) : Nat := cfg.maxLen r.id

/-- `POLY_F3` (R151). -/
def execPolyF3 (idHigh : BitVec 6) (idLow : BitVec 2) (c : Colour) (v0 v1 v2 : Vtx) (s : State) : Result :=
  .next (s.emit (.poly (plainPoly (idHigh ++ idLow) false [v0, v1, v2] [c, c, c])))

/-- `POLY_FT3` (R152). -/
def execPolyFT3 (idHigh : BitVec 6) (idLow : BitVec 2) (c : Colour) (v0 : Vtx) (t0 : Uv) (clut : BitVec 16) (v1 : Vtx) (t1 : Uv)
    (tpage : BitVec 16) (v2 : Vtx) (t2 : Uv) (s : State) : Result :=
  .next ((s.texpageWriteback tpage).emit (.poly (texturedPoly (idHigh ++ idLow) false
    [v0, v1, v2] [c, c, c] [t0, t1, t2] clut tpage)))

/-- `POLY_F4` (R153). -/
def execPolyF4 (idHigh : BitVec 6) (idLow : BitVec 2) (c : Colour) (v0 v1 v2 v3 : Vtx) (s : State) : Result :=
  .next (s.emit (.poly (plainPoly (idHigh ++ idLow) false [v0, v1, v2, v3] [c, c, c, c])))

/-- `POLY_FT4` (R154). -/
def execPolyFT4 (idHigh : BitVec 6) (idLow : BitVec 2) (c : Colour) (v0 : Vtx) (t0 : Uv) (clut : BitVec 16) (v1 : Vtx) (t1 : Uv)
    (tpage : BitVec 16) (v2 : Vtx) (t2 : Uv) (v3 : Vtx) (t3 : Uv) (s : State) : Result :=
  .next ((s.texpageWriteback tpage).emit (.poly (texturedPoly (idHigh ++ idLow) false
    [v0, v1, v2, v3] [c, c, c, c] [t0, t1, t2, t3] clut tpage)))

/-- `POLY_G3` (R155). -/
def execPolyG3 (idHigh : BitVec 6) (idLow : BitVec 2) (c0 : Colour) (v0 : Vtx) (c1 : Colour) (v1 : Vtx) (c2 : Colour) (v2 : Vtx)
    (s : State) : Result :=
  .next (s.emit (.poly (plainPoly (idHigh ++ idLow) true [v0, v1, v2] [c0, c1, c2])))

/-- `POLY_GT3` (R156). -/
def execPolyGT3 (idHigh : BitVec 6) (idLow : BitVec 2) (c0 : Colour) (v0 : Vtx) (t0 : Uv) (clut : BitVec 16) (c1 : Colour) (v1 : Vtx)
    (t1 : Uv) (tpage : BitVec 16) (c2 : Colour) (v2 : Vtx) (t2 : Uv) (s : State) : Result :=
  .next ((s.texpageWriteback tpage).emit (.poly (texturedPoly (idHigh ++ idLow) true
    [v0, v1, v2] [c0, c1, c2] [t0, t1, t2] clut tpage)))

/-- `POLY_G4` (R157). -/
def execPolyG4 (idHigh : BitVec 6) (idLow : BitVec 2) (c0 : Colour) (v0 : Vtx) (c1 : Colour) (v1 : Vtx) (c2 : Colour) (v2 : Vtx)
    (c3 : Colour) (v3 : Vtx) (s : State) : Result :=
  .next (s.emit (.poly (plainPoly (idHigh ++ idLow) true [v0, v1, v2, v3] [c0, c1, c2, c3])))

/-- `POLY_GT4` (R158). -/
def execPolyGT4 (idHigh : BitVec 6) (idLow : BitVec 2) (c0 : Colour) (v0 : Vtx) (t0 : Uv) (clut : BitVec 16) (c1 : Colour) (v1 : Vtx)
    (t1 : Uv) (tpage : BitVec 16) (c2 : Colour) (v2 : Vtx) (t2 : Uv) (c3 : Colour) (v3 : Vtx) (t3 : Uv)
    (s : State) : Result :=
  .next ((s.texpageWriteback tpage).emit (.poly (texturedPoly (idHigh ++ idLow) true
    [v0, v1, v2, v3] [c0, c1, c2, c3] [t0, t1, t2, t3] clut tpage)))

end Sys2Proof.Machine
end

