-- ==== Sys2Proof/Machine/Rect.lean ====
section
/-!
DEFINITION. Machine/Rect.lean: the tile and sprite commands (spec/43_tile_sprite.md). Each emits one `RectRec` and changes nothing
else. Sizes are carried raw: a zero is a zero (R189).
-/

namespace Sys2Proof.Machine

/-- A tile's record (R180): `semi` and `raw` are id bits 1 and 0. -/
def tileRec (id : BitVec 8) (sizeclass : BitVec 2) (c : Colour) (pos : Vtx) (w h : Nat) : RectRec where
  id := id
  textured := false
  semi := id.getLsbD 1
  raw := id.getLsbD 0
  sizeclass := sizeclass
  c := c
  pos := vertex pos
  w := w
  h := h
  uv := none
  clut := none

/-- A sprite's record (R180): `semi` and `raw` are id bits 1 and 0. -/
def spriteRec (id : BitVec 8) (sizeclass : BitVec 2) (c : Colour) (pos : Vtx) (uv : Uv)
    (clut : BitVec 16) (w h : Nat) : RectRec where
  id := id
  textured := true
  semi := id.getLsbD 1
  raw := id.getLsbD 0
  sizeclass := sizeclass
  c := c
  pos := vertex pos
  w := w
  h := h
  uv := some uv
  clut := some clut

/-- `TILE` (R181, R189). -/
def execTile (idHigh : BitVec 6) (idLow : BitVec 2) (c : Colour) (pos : Vtx) (size : Size) (s : State) : Result :=
  .next (s.emit (.rect (tileRec (idHigh ++ idLow) 0 c pos size.w.toNat size.h.toNat)))

/-- `SPRT` (R182, R189). -/
def execSprt (idHigh : BitVec 6) (idLow : BitVec 2) (c : Colour) (pos : Vtx) (uv : Uv) (clut : BitVec 16) (size : Size) (s : State) : Result :=
  .next (s.emit (.rect (spriteRec (idHigh ++ idLow) 0 c pos uv clut size.w.toNat size.h.toNat)))

/-- `TILE_1` (R183). -/
def execTile1 (idHigh : BitVec 6) (idLow : BitVec 2) (c : Colour) (pos : Vtx) (s : State) : Result :=
  .next (s.emit (.rect (tileRec (idHigh ++ idLow) 1 c pos 1 1)))

/-- `SPRT_1` (R184). -/
def execSprt1 (idHigh : BitVec 6) (idLow : BitVec 2) (c : Colour) (pos : Vtx) (uv : Uv) (clut : BitVec 16) (s : State) : Result :=
  .next (s.emit (.rect (spriteRec (idHigh ++ idLow) 1 c pos uv clut 1 1)))

/-- `TILE_8` (R185). -/
def execTile8 (idHigh : BitVec 6) (idLow : BitVec 2) (c : Colour) (pos : Vtx) (s : State) : Result :=
  .next (s.emit (.rect (tileRec (idHigh ++ idLow) 2 c pos 8 8)))

/-- `SPRT_8` (R186). -/
def execSprt8 (idHigh : BitVec 6) (idLow : BitVec 2) (c : Colour) (pos : Vtx) (uv : Uv) (clut : BitVec 16) (s : State) : Result :=
  .next (s.emit (.rect (spriteRec (idHigh ++ idLow) 2 c pos uv clut 8 8)))

/-- `TILE_16` (R187). -/
def execTile16 (idHigh : BitVec 6) (idLow : BitVec 2) (c : Colour) (pos : Vtx) (s : State) : Result :=
  .next (s.emit (.rect (tileRec (idHigh ++ idLow) 3 c pos 16 16)))

/-- `SPRT_16` (R188). -/
def execSprt16 (idHigh : BitVec 6) (idLow : BitVec 2) (c : Colour) (pos : Vtx) (uv : Uv) (clut : BitVec 16) (s : State) : Result :=
  .next (s.emit (.rect (spriteRec (idHigh ++ idLow) 3 c pos uv clut 16 16)))

end Sys2Proof.Machine
end

