-- ==== Sys2Proof/Machine/Unknown.lean ====
section
/-!
DEFINITION. Machine/Unknown.lean: the unknown ids of both channels. An unknown rendering id discards its one word with no state
change (spec/30_encoding.md R110, spec/46_assembler.md R242); an unknown control id writes the history only
(spec/47_control_channel.md R282). One definition per row of the opcode table, over two shared operations.
-/

namespace Sys2Proof.Machine

/-- "discard the word and remain Idle": no state change at all (R110, R242). -/
def discard (s : State) : Result := .next s

/-- "Nothing happens beyond the `CTRLHIST` write" (R282). -/
def recordOnly (mirror : BitVec 2) (cid : BitVec 6) (p : BitVec 24) (s : State) : Result :=
  .next (s.recordControl mirror cid p)

def execUnknown00 (s : State) : Result := discard s
def execUnknown01 (s : State) : Result := discard s
def execUnknown03 (s : State) : Result := discard s
def execUnknown04 (s : State) : Result := discard s
def execUnknown05 (s : State) : Result := discard s
def execUnknown06 (s : State) : Result := discard s
def execUnknown07 (s : State) : Result := discard s
def execUnknown08 (s : State) : Result := discard s
def execUnknown09 (s : State) : Result := discard s
def execUnknown0A (s : State) : Result := discard s
def execUnknown0B (s : State) : Result := discard s
def execUnknown0C (s : State) : Result := discard s
def execUnknown0D (s : State) : Result := discard s
def execUnknown0E (s : State) : Result := discard s
def execUnknown0F (s : State) : Result := discard s
def execUnknown10 (s : State) : Result := discard s
def execUnknown11 (s : State) : Result := discard s
def execUnknown12 (s : State) : Result := discard s
def execUnknown13 (s : State) : Result := discard s
def execUnknown14 (s : State) : Result := discard s
def execUnknown15 (s : State) : Result := discard s
def execUnknown16 (s : State) : Result := discard s
def execUnknown17 (s : State) : Result := discard s
def execUnknown18 (s : State) : Result := discard s
def execUnknown19 (s : State) : Result := discard s
def execUnknown1A (s : State) : Result := discard s
def execUnknown1B (s : State) : Result := discard s
def execUnknown1C (s : State) : Result := discard s
def execUnknown1D (s : State) : Result := discard s
def execUnknown1E (s : State) : Result := discard s
def execUnknown81 (s : State) : Result := discard s
def execUnknown82 (s : State) : Result := discard s
def execUnknown83 (s : State) : Result := discard s
def execUnknown84 (s : State) : Result := discard s
def execUnknown85 (s : State) : Result := discard s
def execUnknown86 (s : State) : Result := discard s
def execUnknown87 (s : State) : Result := discard s
def execUnknown88 (s : State) : Result := discard s
def execUnknown89 (s : State) : Result := discard s
def execUnknown8A (s : State) : Result := discard s
def execUnknown8B (s : State) : Result := discard s
def execUnknown8C (s : State) : Result := discard s
def execUnknown8D (s : State) : Result := discard s
def execUnknown8E (s : State) : Result := discard s
def execUnknown8F (s : State) : Result := discard s
def execUnknown90 (s : State) : Result := discard s
def execUnknown91 (s : State) : Result := discard s
def execUnknown92 (s : State) : Result := discard s
def execUnknown93 (s : State) : Result := discard s
def execUnknown94 (s : State) : Result := discard s
def execUnknown95 (s : State) : Result := discard s
def execUnknown96 (s : State) : Result := discard s
def execUnknown97 (s : State) : Result := discard s
def execUnknown98 (s : State) : Result := discard s
def execUnknown99 (s : State) : Result := discard s
def execUnknown9A (s : State) : Result := discard s
def execUnknown9B (s : State) : Result := discard s
def execUnknown9C (s : State) : Result := discard s
def execUnknown9D (s : State) : Result := discard s
def execUnknown9E (s : State) : Result := discard s
def execUnknown9F (s : State) : Result := discard s
def execUnknownA1 (s : State) : Result := discard s
def execUnknownA2 (s : State) : Result := discard s
def execUnknownA3 (s : State) : Result := discard s
def execUnknownA4 (s : State) : Result := discard s
def execUnknownA5 (s : State) : Result := discard s
def execUnknownA6 (s : State) : Result := discard s
def execUnknownA7 (s : State) : Result := discard s
def execUnknownA8 (s : State) : Result := discard s
def execUnknownA9 (s : State) : Result := discard s
def execUnknownAA (s : State) : Result := discard s
def execUnknownAB (s : State) : Result := discard s
def execUnknownAC (s : State) : Result := discard s
def execUnknownAD (s : State) : Result := discard s
def execUnknownAE (s : State) : Result := discard s
def execUnknownAF (s : State) : Result := discard s
def execUnknownB0 (s : State) : Result := discard s
def execUnknownB1 (s : State) : Result := discard s
def execUnknownB2 (s : State) : Result := discard s
def execUnknownB3 (s : State) : Result := discard s
def execUnknownB4 (s : State) : Result := discard s
def execUnknownB5 (s : State) : Result := discard s
def execUnknownB6 (s : State) : Result := discard s
def execUnknownB7 (s : State) : Result := discard s
def execUnknownB8 (s : State) : Result := discard s
def execUnknownB9 (s : State) : Result := discard s
def execUnknownBA (s : State) : Result := discard s
def execUnknownBB (s : State) : Result := discard s
def execUnknownBC (s : State) : Result := discard s
def execUnknownBD (s : State) : Result := discard s
def execUnknownBE (s : State) : Result := discard s
def execUnknownBF (s : State) : Result := discard s
def execUnknownC1 (s : State) : Result := discard s
def execUnknownC2 (s : State) : Result := discard s
def execUnknownC3 (s : State) : Result := discard s
def execUnknownC4 (s : State) : Result := discard s
def execUnknownC5 (s : State) : Result := discard s
def execUnknownC6 (s : State) : Result := discard s
def execUnknownC7 (s : State) : Result := discard s
def execUnknownC8 (s : State) : Result := discard s
def execUnknownC9 (s : State) : Result := discard s
def execUnknownCA (s : State) : Result := discard s
def execUnknownCB (s : State) : Result := discard s
def execUnknownCC (s : State) : Result := discard s
def execUnknownCD (s : State) : Result := discard s
def execUnknownCE (s : State) : Result := discard s
def execUnknownCF (s : State) : Result := discard s
def execUnknownD0 (s : State) : Result := discard s
def execUnknownD1 (s : State) : Result := discard s
def execUnknownD2 (s : State) : Result := discard s
def execUnknownD3 (s : State) : Result := discard s
def execUnknownD4 (s : State) : Result := discard s
def execUnknownD5 (s : State) : Result := discard s
def execUnknownD6 (s : State) : Result := discard s
def execUnknownD7 (s : State) : Result := discard s
def execUnknownD8 (s : State) : Result := discard s
def execUnknownD9 (s : State) : Result := discard s
def execUnknownDA (s : State) : Result := discard s
def execUnknownDB (s : State) : Result := discard s
def execUnknownDC (s : State) : Result := discard s
def execUnknownDD (s : State) : Result := discard s
def execUnknownDE (s : State) : Result := discard s
def execUnknownDF (s : State) : Result := discard s
def execUnknownE0 (s : State) : Result := discard s
def execUnknownE7 (s : State) : Result := discard s
def execUnknownE8 (s : State) : Result := discard s
def execUnknownE9 (s : State) : Result := discard s
def execUnknownEA (s : State) : Result := discard s
def execUnknownEB (s : State) : Result := discard s
def execUnknownEC (s : State) : Result := discard s
def execUnknownED (s : State) : Result := discard s
def execUnknownEE (s : State) : Result := discard s
def execUnknownEF (s : State) : Result := discard s
def execUnknownF0 (s : State) : Result := discard s
def execUnknownF1 (s : State) : Result := discard s
def execUnknownF2 (s : State) : Result := discard s
def execUnknownF3 (s : State) : Result := discard s
def execUnknownF4 (s : State) : Result := discard s
def execUnknownF5 (s : State) : Result := discard s
def execUnknownF6 (s : State) : Result := discard s
def execUnknownF7 (s : State) : Result := discard s
def execUnknownF8 (s : State) : Result := discard s
def execUnknownF9 (s : State) : Result := discard s
def execUnknownFA (s : State) : Result := discard s
def execUnknownFB (s : State) : Result := discard s
def execUnknownFC (s : State) : Result := discard s
def execUnknownFD (s : State) : Result := discard s
def execUnknownFE (s : State) : Result := discard s
def execUnknownFF (s : State) : Result := discard s

def execCUnknown0A (mirror : BitVec 2) (p : BitVec 24) (s : State) : Result := recordOnly mirror 0x0A p s
def execCUnknown0B (mirror : BitVec 2) (p : BitVec 24) (s : State) : Result := recordOnly mirror 0x0B p s
def execCUnknown0C (mirror : BitVec 2) (p : BitVec 24) (s : State) : Result := recordOnly mirror 0x0C p s
def execCUnknown0D (mirror : BitVec 2) (p : BitVec 24) (s : State) : Result := recordOnly mirror 0x0D p s
def execCUnknown0E (mirror : BitVec 2) (p : BitVec 24) (s : State) : Result := recordOnly mirror 0x0E p s
def execCUnknown0F (mirror : BitVec 2) (p : BitVec 24) (s : State) : Result := recordOnly mirror 0x0F p s
def execCUnknown20 (mirror : BitVec 2) (p : BitVec 24) (s : State) : Result := recordOnly mirror 0x20 p s
def execCUnknown21 (mirror : BitVec 2) (p : BitVec 24) (s : State) : Result := recordOnly mirror 0x21 p s
def execCUnknown22 (mirror : BitVec 2) (p : BitVec 24) (s : State) : Result := recordOnly mirror 0x22 p s
def execCUnknown23 (mirror : BitVec 2) (p : BitVec 24) (s : State) : Result := recordOnly mirror 0x23 p s
def execCUnknown24 (mirror : BitVec 2) (p : BitVec 24) (s : State) : Result := recordOnly mirror 0x24 p s
def execCUnknown25 (mirror : BitVec 2) (p : BitVec 24) (s : State) : Result := recordOnly mirror 0x25 p s
def execCUnknown26 (mirror : BitVec 2) (p : BitVec 24) (s : State) : Result := recordOnly mirror 0x26 p s
def execCUnknown27 (mirror : BitVec 2) (p : BitVec 24) (s : State) : Result := recordOnly mirror 0x27 p s
def execCUnknown28 (mirror : BitVec 2) (p : BitVec 24) (s : State) : Result := recordOnly mirror 0x28 p s
def execCUnknown29 (mirror : BitVec 2) (p : BitVec 24) (s : State) : Result := recordOnly mirror 0x29 p s
def execCUnknown2A (mirror : BitVec 2) (p : BitVec 24) (s : State) : Result := recordOnly mirror 0x2A p s
def execCUnknown2B (mirror : BitVec 2) (p : BitVec 24) (s : State) : Result := recordOnly mirror 0x2B p s
def execCUnknown2C (mirror : BitVec 2) (p : BitVec 24) (s : State) : Result := recordOnly mirror 0x2C p s
def execCUnknown2D (mirror : BitVec 2) (p : BitVec 24) (s : State) : Result := recordOnly mirror 0x2D p s
def execCUnknown2E (mirror : BitVec 2) (p : BitVec 24) (s : State) : Result := recordOnly mirror 0x2E p s
def execCUnknown2F (mirror : BitVec 2) (p : BitVec 24) (s : State) : Result := recordOnly mirror 0x2F p s
def execCUnknown30 (mirror : BitVec 2) (p : BitVec 24) (s : State) : Result := recordOnly mirror 0x30 p s
def execCUnknown31 (mirror : BitVec 2) (p : BitVec 24) (s : State) : Result := recordOnly mirror 0x31 p s
def execCUnknown32 (mirror : BitVec 2) (p : BitVec 24) (s : State) : Result := recordOnly mirror 0x32 p s
def execCUnknown33 (mirror : BitVec 2) (p : BitVec 24) (s : State) : Result := recordOnly mirror 0x33 p s
def execCUnknown34 (mirror : BitVec 2) (p : BitVec 24) (s : State) : Result := recordOnly mirror 0x34 p s
def execCUnknown35 (mirror : BitVec 2) (p : BitVec 24) (s : State) : Result := recordOnly mirror 0x35 p s
def execCUnknown36 (mirror : BitVec 2) (p : BitVec 24) (s : State) : Result := recordOnly mirror 0x36 p s
def execCUnknown37 (mirror : BitVec 2) (p : BitVec 24) (s : State) : Result := recordOnly mirror 0x37 p s
def execCUnknown38 (mirror : BitVec 2) (p : BitVec 24) (s : State) : Result := recordOnly mirror 0x38 p s
def execCUnknown39 (mirror : BitVec 2) (p : BitVec 24) (s : State) : Result := recordOnly mirror 0x39 p s
def execCUnknown3A (mirror : BitVec 2) (p : BitVec 24) (s : State) : Result := recordOnly mirror 0x3A p s
def execCUnknown3B (mirror : BitVec 2) (p : BitVec 24) (s : State) : Result := recordOnly mirror 0x3B p s
def execCUnknown3C (mirror : BitVec 2) (p : BitVec 24) (s : State) : Result := recordOnly mirror 0x3C p s
def execCUnknown3D (mirror : BitVec 2) (p : BitVec 24) (s : State) : Result := recordOnly mirror 0x3D p s
def execCUnknown3E (mirror : BitVec 2) (p : BitVec 24) (s : State) : Result := recordOnly mirror 0x3E p s
def execCUnknown3F (mirror : BitVec 2) (p : BitVec 24) (s : State) : Result := recordOnly mirror 0x3F p s

end Sys2Proof.Machine
end

