-- ==== Sys2Proof/Machine/Dispatch.lean ====
section
/-!
DEFINITION. Machine/Dispatch.lean: the handler of every command of spec/opcode_table.json.
-/

namespace Sys2Proof.Machine

/-- The full handler of a command (spec/46_assembler.md R248, spec/47_control_channel.md R270). -/
def exec (i : Instr) (s : State) : Host.Outcome State Fault Refusal :=
  match i with
  | .fill c dst size => Sys2Proof.Machine.execFill c dst size s
  | .irq1 => Sys2Proof.Machine.execIrq1 s
  | .polyF3 idHigh idLow c v0 v1 v2 => Sys2Proof.Machine.execPolyF3 idHigh idLow c v0 v1 v2 s
  | .polyFT3 idHigh idLow c v0 t0 clut v1 t1 tpage v2 t2 => Sys2Proof.Machine.execPolyFT3 idHigh idLow c v0 t0 clut v1 t1 tpage v2 t2 s
  | .polyF4 idHigh idLow c v0 v1 v2 v3 => Sys2Proof.Machine.execPolyF4 idHigh idLow c v0 v1 v2 v3 s
  | .polyFT4 idHigh idLow c v0 t0 clut v1 t1 tpage v2 t2 v3 t3 => Sys2Proof.Machine.execPolyFT4 idHigh idLow c v0 t0 clut v1 t1 tpage v2 t2 v3 t3 s
  | .polyG3 idHigh idLow c0 v0 c1 v1 c2 v2 => Sys2Proof.Machine.execPolyG3 idHigh idLow c0 v0 c1 v1 c2 v2 s
  | .polyGT3 idHigh idLow c0 v0 t0 clut c1 v1 t1 tpage c2 v2 t2 => Sys2Proof.Machine.execPolyGT3 idHigh idLow c0 v0 t0 clut c1 v1 t1 tpage c2 v2 t2 s
  | .polyG4 idHigh idLow c0 v0 c1 v1 c2 v2 c3 v3 => Sys2Proof.Machine.execPolyG4 idHigh idLow c0 v0 c1 v1 c2 v2 c3 v3 s
  | .polyGT4 idHigh idLow c0 v0 t0 clut c1 v1 t1 tpage c2 v2 t2 c3 v3 t3 => Sys2Proof.Machine.execPolyGT4 idHigh idLow c0 v0 t0 clut c1 v1 t1 tpage c2 v2 t2 c3 v3 t3 s
  | .lineF2 idHigh semi b0 c v0 v1 => Sys2Proof.Machine.execLineF2 idHigh semi b0 c v0 v1 s
  | .plineF idHigh semi b0 c vs terminated => Sys2Proof.Machine.execPlineF idHigh semi b0 c vs terminated s
  | .lineG2 idHigh semi b0 c0 v0 c1 v1 => Sys2Proof.Machine.execLineG2 idHigh semi b0 c0 v0 c1 v1 s
  | .plineG idHigh semi b0 cvs terminated => Sys2Proof.Machine.execPlineG idHigh semi b0 cvs terminated s
  | .tile idHigh idLow c pos size => Sys2Proof.Machine.execTile idHigh idLow c pos size s
  | .sprt idHigh idLow c pos uv clut size => Sys2Proof.Machine.execSprt idHigh idLow c pos uv clut size s
  | .tile1 idHigh idLow c pos => Sys2Proof.Machine.execTile1 idHigh idLow c pos s
  | .sprt1 idHigh idLow c pos uv clut => Sys2Proof.Machine.execSprt1 idHigh idLow c pos uv clut s
  | .tile8 idHigh idLow c pos => Sys2Proof.Machine.execTile8 idHigh idLow c pos s
  | .sprt8 idHigh idLow c pos uv clut => Sys2Proof.Machine.execSprt8 idHigh idLow c pos uv clut s
  | .tile16 idHigh idLow c pos => Sys2Proof.Machine.execTile16 idHigh idLow c pos s
  | .sprt16 idHigh idLow c pos uv clut => Sys2Proof.Machine.execSprt16 idHigh idLow c pos uv clut s
  | .move id src dst size => Sys2Proof.Machine.execMove id src dst size s
  | .load id dst size => Sys2Proof.Machine.execLoad id dst size s
  | .store id src size => Sys2Proof.Machine.execStore id src size s
  | .texpage mode texDisable flip => Sys2Proof.Machine.execTexpage mode texDisable flip s
  | .texwin window => Sys2Proof.Machine.execTexwin window s
  | .drawareaTL corner => Sys2Proof.Machine.execDrawareaTL corner s
  | .drawareaBR corner => Sys2Proof.Machine.execDrawareaBR corner s
  | .drawofs offset => Sys2Proof.Machine.execDrawofs offset s
  | .maskset md me => Sys2Proof.Machine.execMaskset md me s
  | .cReset mirror p => Sys2Proof.Machine.execCReset mirror p s
  | .cClearfifo mirror p => Sys2Proof.Machine.execCClearfifo mirror p s
  | .cAckirq mirror p => Sys2Proof.Machine.execCAckirq mirror p s
  | .cDispen mirror p => Sys2Proof.Machine.execCDispen mirror p s
  | .cDmadir mirror p => Sys2Proof.Machine.execCDmadir mirror p s
  | .cDisporg mirror p => Sys2Proof.Machine.execCDisporg mirror p s
  | .cHrange mirror p => Sys2Proof.Machine.execCHrange mirror p s
  | .cVrange mirror p => Sys2Proof.Machine.execCVrange mirror p s
  | .cDispmode mirror p => Sys2Proof.Machine.execCDispmode mirror p s
  | .cTexdis mirror p => Sys2Proof.Machine.execCTexdis mirror p s
  | .cGpuinfo mirror band p => Sys2Proof.Machine.execCGpuinfo mirror band p s
  | .unknown00 => Sys2Proof.Machine.execUnknown00 s
  | .unknown01 => Sys2Proof.Machine.execUnknown01 s
  | .unknown03 => Sys2Proof.Machine.execUnknown03 s
  | .unknown04 => Sys2Proof.Machine.execUnknown04 s
  | .unknown05 => Sys2Proof.Machine.execUnknown05 s
  | .unknown06 => Sys2Proof.Machine.execUnknown06 s
  | .unknown07 => Sys2Proof.Machine.execUnknown07 s
  | .unknown08 => Sys2Proof.Machine.execUnknown08 s
  | .unknown09 => Sys2Proof.Machine.execUnknown09 s
  | .unknown0A => Sys2Proof.Machine.execUnknown0A s
  | .unknown0B => Sys2Proof.Machine.execUnknown0B s
  | .unknown0C => Sys2Proof.Machine.execUnknown0C s
  | .unknown0D => Sys2Proof.Machine.execUnknown0D s
  | .unknown0E => Sys2Proof.Machine.execUnknown0E s
  | .unknown0F => Sys2Proof.Machine.execUnknown0F s
  | .unknown10 => Sys2Proof.Machine.execUnknown10 s
  | .unknown11 => Sys2Proof.Machine.execUnknown11 s
  | .unknown12 => Sys2Proof.Machine.execUnknown12 s
  | .unknown13 => Sys2Proof.Machine.execUnknown13 s
  | .unknown14 => Sys2Proof.Machine.execUnknown14 s
  | .unknown15 => Sys2Proof.Machine.execUnknown15 s
  | .unknown16 => Sys2Proof.Machine.execUnknown16 s
  | .unknown17 => Sys2Proof.Machine.execUnknown17 s
  | .unknown18 => Sys2Proof.Machine.execUnknown18 s
  | .unknown19 => Sys2Proof.Machine.execUnknown19 s
  | .unknown1A => Sys2Proof.Machine.execUnknown1A s
  | .unknown1B => Sys2Proof.Machine.execUnknown1B s
  | .unknown1C => Sys2Proof.Machine.execUnknown1C s
  | .unknown1D => Sys2Proof.Machine.execUnknown1D s
  | .unknown1E => Sys2Proof.Machine.execUnknown1E s
  | .unknown81 => Sys2Proof.Machine.execUnknown81 s
  | .unknown82 => Sys2Proof.Machine.execUnknown82 s
  | .unknown83 => Sys2Proof.Machine.execUnknown83 s
  | .unknown84 => Sys2Proof.Machine.execUnknown84 s
  | .unknown85 => Sys2Proof.Machine.execUnknown85 s
  | .unknown86 => Sys2Proof.Machine.execUnknown86 s
  | .unknown87 => Sys2Proof.Machine.execUnknown87 s
  | .unknown88 => Sys2Proof.Machine.execUnknown88 s
  | .unknown89 => Sys2Proof.Machine.execUnknown89 s
  | .unknown8A => Sys2Proof.Machine.execUnknown8A s
  | .unknown8B => Sys2Proof.Machine.execUnknown8B s
  | .unknown8C => Sys2Proof.Machine.execUnknown8C s
  | .unknown8D => Sys2Proof.Machine.execUnknown8D s
  | .unknown8E => Sys2Proof.Machine.execUnknown8E s
  | .unknown8F => Sys2Proof.Machine.execUnknown8F s
  | .unknown90 => Sys2Proof.Machine.execUnknown90 s
  | .unknown91 => Sys2Proof.Machine.execUnknown91 s
  | .unknown92 => Sys2Proof.Machine.execUnknown92 s
  | .unknown93 => Sys2Proof.Machine.execUnknown93 s
  | .unknown94 => Sys2Proof.Machine.execUnknown94 s
  | .unknown95 => Sys2Proof.Machine.execUnknown95 s
  | .unknown96 => Sys2Proof.Machine.execUnknown96 s
  | .unknown97 => Sys2Proof.Machine.execUnknown97 s
  | .unknown98 => Sys2Proof.Machine.execUnknown98 s
  | .unknown99 => Sys2Proof.Machine.execUnknown99 s
  | .unknown9A => Sys2Proof.Machine.execUnknown9A s
  | .unknown9B => Sys2Proof.Machine.execUnknown9B s
  | .unknown9C => Sys2Proof.Machine.execUnknown9C s
  | .unknown9D => Sys2Proof.Machine.execUnknown9D s
  | .unknown9E => Sys2Proof.Machine.execUnknown9E s
  | .unknown9F => Sys2Proof.Machine.execUnknown9F s
  | .unknownA1 => Sys2Proof.Machine.execUnknownA1 s
  | .unknownA2 => Sys2Proof.Machine.execUnknownA2 s
  | .unknownA3 => Sys2Proof.Machine.execUnknownA3 s
  | .unknownA4 => Sys2Proof.Machine.execUnknownA4 s
  | .unknownA5 => Sys2Proof.Machine.execUnknownA5 s
  | .unknownA6 => Sys2Proof.Machine.execUnknownA6 s
  | .unknownA7 => Sys2Proof.Machine.execUnknownA7 s
  | .unknownA8 => Sys2Proof.Machine.execUnknownA8 s
  | .unknownA9 => Sys2Proof.Machine.execUnknownA9 s
  | .unknownAA => Sys2Proof.Machine.execUnknownAA s
  | .unknownAB => Sys2Proof.Machine.execUnknownAB s
  | .unknownAC => Sys2Proof.Machine.execUnknownAC s
  | .unknownAD => Sys2Proof.Machine.execUnknownAD s
  | .unknownAE => Sys2Proof.Machine.execUnknownAE s
  | .unknownAF => Sys2Proof.Machine.execUnknownAF s
  | .unknownB0 => Sys2Proof.Machine.execUnknownB0 s
  | .unknownB1 => Sys2Proof.Machine.execUnknownB1 s
  | .unknownB2 => Sys2Proof.Machine.execUnknownB2 s
  | .unknownB3 => Sys2Proof.Machine.execUnknownB3 s
  | .unknownB4 => Sys2Proof.Machine.execUnknownB4 s
  | .unknownB5 => Sys2Proof.Machine.execUnknownB5 s
  | .unknownB6 => Sys2Proof.Machine.execUnknownB6 s
  | .unknownB7 => Sys2Proof.Machine.execUnknownB7 s
  | .unknownB8 => Sys2Proof.Machine.execUnknownB8 s
  | .unknownB9 => Sys2Proof.Machine.execUnknownB9 s
  | .unknownBA => Sys2Proof.Machine.execUnknownBA s
  | .unknownBB => Sys2Proof.Machine.execUnknownBB s
  | .unknownBC => Sys2Proof.Machine.execUnknownBC s
  | .unknownBD => Sys2Proof.Machine.execUnknownBD s
  | .unknownBE => Sys2Proof.Machine.execUnknownBE s
  | .unknownBF => Sys2Proof.Machine.execUnknownBF s
  | .unknownC1 => Sys2Proof.Machine.execUnknownC1 s
  | .unknownC2 => Sys2Proof.Machine.execUnknownC2 s
  | .unknownC3 => Sys2Proof.Machine.execUnknownC3 s
  | .unknownC4 => Sys2Proof.Machine.execUnknownC4 s
  | .unknownC5 => Sys2Proof.Machine.execUnknownC5 s
  | .unknownC6 => Sys2Proof.Machine.execUnknownC6 s
  | .unknownC7 => Sys2Proof.Machine.execUnknownC7 s
  | .unknownC8 => Sys2Proof.Machine.execUnknownC8 s
  | .unknownC9 => Sys2Proof.Machine.execUnknownC9 s
  | .unknownCA => Sys2Proof.Machine.execUnknownCA s
  | .unknownCB => Sys2Proof.Machine.execUnknownCB s
  | .unknownCC => Sys2Proof.Machine.execUnknownCC s
  | .unknownCD => Sys2Proof.Machine.execUnknownCD s
  | .unknownCE => Sys2Proof.Machine.execUnknownCE s
  | .unknownCF => Sys2Proof.Machine.execUnknownCF s
  | .unknownD0 => Sys2Proof.Machine.execUnknownD0 s
  | .unknownD1 => Sys2Proof.Machine.execUnknownD1 s
  | .unknownD2 => Sys2Proof.Machine.execUnknownD2 s
  | .unknownD3 => Sys2Proof.Machine.execUnknownD3 s
  | .unknownD4 => Sys2Proof.Machine.execUnknownD4 s
  | .unknownD5 => Sys2Proof.Machine.execUnknownD5 s
  | .unknownD6 => Sys2Proof.Machine.execUnknownD6 s
  | .unknownD7 => Sys2Proof.Machine.execUnknownD7 s
  | .unknownD8 => Sys2Proof.Machine.execUnknownD8 s
  | .unknownD9 => Sys2Proof.Machine.execUnknownD9 s
  | .unknownDA => Sys2Proof.Machine.execUnknownDA s
  | .unknownDB => Sys2Proof.Machine.execUnknownDB s
  | .unknownDC => Sys2Proof.Machine.execUnknownDC s
  | .unknownDD => Sys2Proof.Machine.execUnknownDD s
  | .unknownDE => Sys2Proof.Machine.execUnknownDE s
  | .unknownDF => Sys2Proof.Machine.execUnknownDF s
  | .unknownE0 => Sys2Proof.Machine.execUnknownE0 s
  | .unknownE7 => Sys2Proof.Machine.execUnknownE7 s
  | .unknownE8 => Sys2Proof.Machine.execUnknownE8 s
  | .unknownE9 => Sys2Proof.Machine.execUnknownE9 s
  | .unknownEA => Sys2Proof.Machine.execUnknownEA s
  | .unknownEB => Sys2Proof.Machine.execUnknownEB s
  | .unknownEC => Sys2Proof.Machine.execUnknownEC s
  | .unknownED => Sys2Proof.Machine.execUnknownED s
  | .unknownEE => Sys2Proof.Machine.execUnknownEE s
  | .unknownEF => Sys2Proof.Machine.execUnknownEF s
  | .unknownF0 => Sys2Proof.Machine.execUnknownF0 s
  | .unknownF1 => Sys2Proof.Machine.execUnknownF1 s
  | .unknownF2 => Sys2Proof.Machine.execUnknownF2 s
  | .unknownF3 => Sys2Proof.Machine.execUnknownF3 s
  | .unknownF4 => Sys2Proof.Machine.execUnknownF4 s
  | .unknownF5 => Sys2Proof.Machine.execUnknownF5 s
  | .unknownF6 => Sys2Proof.Machine.execUnknownF6 s
  | .unknownF7 => Sys2Proof.Machine.execUnknownF7 s
  | .unknownF8 => Sys2Proof.Machine.execUnknownF8 s
  | .unknownF9 => Sys2Proof.Machine.execUnknownF9 s
  | .unknownFA => Sys2Proof.Machine.execUnknownFA s
  | .unknownFB => Sys2Proof.Machine.execUnknownFB s
  | .unknownFC => Sys2Proof.Machine.execUnknownFC s
  | .unknownFD => Sys2Proof.Machine.execUnknownFD s
  | .unknownFE => Sys2Proof.Machine.execUnknownFE s
  | .unknownFF => Sys2Proof.Machine.execUnknownFF s
  | .cUnknown0A mirror p => Sys2Proof.Machine.execCUnknown0A mirror p s
  | .cUnknown0B mirror p => Sys2Proof.Machine.execCUnknown0B mirror p s
  | .cUnknown0C mirror p => Sys2Proof.Machine.execCUnknown0C mirror p s
  | .cUnknown0D mirror p => Sys2Proof.Machine.execCUnknown0D mirror p s
  | .cUnknown0E mirror p => Sys2Proof.Machine.execCUnknown0E mirror p s
  | .cUnknown0F mirror p => Sys2Proof.Machine.execCUnknown0F mirror p s
  | .cUnknown20 mirror p => Sys2Proof.Machine.execCUnknown20 mirror p s
  | .cUnknown21 mirror p => Sys2Proof.Machine.execCUnknown21 mirror p s
  | .cUnknown22 mirror p => Sys2Proof.Machine.execCUnknown22 mirror p s
  | .cUnknown23 mirror p => Sys2Proof.Machine.execCUnknown23 mirror p s
  | .cUnknown24 mirror p => Sys2Proof.Machine.execCUnknown24 mirror p s
  | .cUnknown25 mirror p => Sys2Proof.Machine.execCUnknown25 mirror p s
  | .cUnknown26 mirror p => Sys2Proof.Machine.execCUnknown26 mirror p s
  | .cUnknown27 mirror p => Sys2Proof.Machine.execCUnknown27 mirror p s
  | .cUnknown28 mirror p => Sys2Proof.Machine.execCUnknown28 mirror p s
  | .cUnknown29 mirror p => Sys2Proof.Machine.execCUnknown29 mirror p s
  | .cUnknown2A mirror p => Sys2Proof.Machine.execCUnknown2A mirror p s
  | .cUnknown2B mirror p => Sys2Proof.Machine.execCUnknown2B mirror p s
  | .cUnknown2C mirror p => Sys2Proof.Machine.execCUnknown2C mirror p s
  | .cUnknown2D mirror p => Sys2Proof.Machine.execCUnknown2D mirror p s
  | .cUnknown2E mirror p => Sys2Proof.Machine.execCUnknown2E mirror p s
  | .cUnknown2F mirror p => Sys2Proof.Machine.execCUnknown2F mirror p s
  | .cUnknown30 mirror p => Sys2Proof.Machine.execCUnknown30 mirror p s
  | .cUnknown31 mirror p => Sys2Proof.Machine.execCUnknown31 mirror p s
  | .cUnknown32 mirror p => Sys2Proof.Machine.execCUnknown32 mirror p s
  | .cUnknown33 mirror p => Sys2Proof.Machine.execCUnknown33 mirror p s
  | .cUnknown34 mirror p => Sys2Proof.Machine.execCUnknown34 mirror p s
  | .cUnknown35 mirror p => Sys2Proof.Machine.execCUnknown35 mirror p s
  | .cUnknown36 mirror p => Sys2Proof.Machine.execCUnknown36 mirror p s
  | .cUnknown37 mirror p => Sys2Proof.Machine.execCUnknown37 mirror p s
  | .cUnknown38 mirror p => Sys2Proof.Machine.execCUnknown38 mirror p s
  | .cUnknown39 mirror p => Sys2Proof.Machine.execCUnknown39 mirror p s
  | .cUnknown3A mirror p => Sys2Proof.Machine.execCUnknown3A mirror p s
  | .cUnknown3B mirror p => Sys2Proof.Machine.execCUnknown3B mirror p s
  | .cUnknown3C mirror p => Sys2Proof.Machine.execCUnknown3C mirror p s
  | .cUnknown3D mirror p => Sys2Proof.Machine.execCUnknown3D mirror p s
  | .cUnknown3E mirror p => Sys2Proof.Machine.execCUnknown3E mirror p s
  | .cUnknown3F mirror p => Sys2Proof.Machine.execCUnknown3F mirror p s

end Sys2Proof.Machine
end

