-- ==== Sys2Proof/Machine/Assembler.lean ====
section
/-!
DEFINITION. Machine/Assembler.lean: the Command Stream Assembler, the whole meaning of a `WriteGP0(w)` step (spec/46_assembler.md).
The order of its tests is R328: pass-through, unknown first word, buffering, completion, frame skip, handler, clearing, busy arming.
-/

namespace Sys2Proof.Machine

/-- The end of `Dispatch`: `BUFCNT <- 0` and the busy arming (R248, R249, R252). -/
def State.endDispatch (s : State) : State :=
  { s with cmdbuf := [], busycnt := if 0 < s.cfg.fakeBusyReads then s.cfg.fakeBusyReads else s.busycnt }

/-- A handler's outcome, followed by the end of `Dispatch`. -/
def endDispatch (r : Result) : Result :=
  match r with
  | .next s => .next s.endDispatch
  | .fault f => .fault f
  | .refused f => .refused f

/-- What handler `h` reads of the buffer: its words, and, where the table gives the id fewer words than the handler reads, free values
for the words that nothing stored (U3; log 26). -/
def State.handlerWords (s : State) (h : Handler) : List Word :=
  s.cmdbuf ++ (List.range (h.words - s.bufcnt)).map fun k => Config.deadWord s.freeCount (s.bufcnt + k)

/-- The free values of `handlerWords` are drawn: the next command that needs some has others (log 26). -/
def State.drawDeadWords (s : State) (h : Handler) : State :=
  if s.bufcnt < h.words then { s with freeCount := s.freeCount + 1 } else s

/-- `Dispatch(e, terminated)` on the complete buffer (R248); `FRAMESKIP` is read once, here (R256). The skip handler does nothing
(R250). -/
def dispatchBuffer (h : Handler) (terminated : Bool) (s : State) : Result :=
  if s.frameskip && s.cfg.skippable (cmdId (s.cmdbuf.headD 0)) then endDispatch (.next s)
  else endDispatch (exec (assemble h terminated (s.handlerWords h)) (s.drawDeadWords h))

/-- Store `w` at index `BUFCNT` and test for completion (R242, R243, R244). -/
def bufferWord (e : DispatchEntry) (w : Word) (s : State) : Result :=
  let t := { s with cmdbuf := s.cmdbuf ++ [w] }
  match checkComplete e.length s.bufcnt w with
  | some terminated => dispatchBuffer e.handler terminated t
  | none => .next t

/-- `FirstWord(w)` (R242): an unknown id is discarded. The ids that R108 leaves unknown have a mnemonic, whose meaning is to discard
(R110); an id that another table leaves unknown is discarded without one. -/
def firstWord (w : Word) (s : State) : Result :=
  match s.cfg.entry (cmdId w) with
  | some e => bufferWord e w s
  | none =>
    match unknownInstr (cmdId w) with
    | some i => exec i s
    | none => .next s

/-- `NextWord(w)` of a command whose first word is `w0` (R243); the refusal is where its assertion fails (R324). -/
def nextWord (w0 w : Word) (s : State) : Result :=
  match s.cfg.entry (cmdId w0) with
  | some e => if s.bufcnt < e.length.max then bufferWord e w s else .refused .assertionFailed
  | none => .refused .assertionFailed

/-- `WriteGP0(w)` (R241). -/
def writeGP0 (w : Word) (s : State) : Result :=
  match s.wmode with
  | .passthrough => .next (s.passthroughWord w)
  | .framing =>
    match s.cmdbuf with
    | [] => firstWord w s
    | w0 :: _ => nextWord w0 w s

/-- The words of the command at the head of a stream under a table: the first word alone when its id is unknown. -/
def headCommand (c : Config) (stream : List Word) : List Word :=
  match c.entry (cmdId (stream.headD 0)) with
  | none => stream.take 1
  | some e =>
    match frame e.length 0 stream with
    | some (ws, _, _) => ws
    | none => stream

/-- `s` with the words `ws` of one command placed so that the next step completes it: all but the last buffered, the last one pending
on the rendering channel, framing on (log 9). -/
def State.placeCommand (s : State) (ws : List Word) : State :=
  { s with
    wmode := .framing
    cmdbuf := ws.dropLast
    inputs := .writeGP0 (ws.getLastD 0) :: s.inputs }

end Sys2Proof.Machine
end

