-- ==== Sys2Proof/Machine/Ports.lean ====
section
/-!
DEFINITION. Machine/Ports.lean: the port operations of spec/48_host_ports.md R300, each one atomic step, and feeding (R301).
-/

namespace Sys2Proof.Machine

/-- `WriteGP1(w)` (R270): the command of the word, at once, whatever the assembler is doing. -/
def writeGP1 (w : Word) (s : State) : Result := exec (decodeGP1 w) s

/-- What `ReadStatus()` returns: `CSR`, with `IDLE` reported 0 while the busy counter runs (R303). -/
def State.statusWord (s : State) : Word := if 0 < s.busycnt then s.csr &&& ~~~0x04000000#32 else s.csr

/-- `ReadStatus()` (R303). -/
def readStatus (s : State) : Result :=
  .next ({ s with busycnt := s.busycnt - 1 }.answer (.status s.statusWord))

/-- `ReadData()` (R304, R207). -/
def readData (s : State) : Result :=
  match s.rmode with
  | .vramRead => .next (s.afterReadTransfer.answer (.data s.readTransferWord))
  | .normal => .next (s.answer (.data s.readback))

/-- `SetFrameSkip(b)` (R305). -/
def setFrameSkip (b : Bool) (s : State) : Result := .next { s with frameskip := b }

/-- `WriteStatusRaw(v)` (R306). -/
def writeStatusRaw (v : Word) (s : State) : Result := .next (s.withCsr v)

/-- `Freeze()` (R307). -/
def freeze (s : State) : Result := .next (s.answer (.frozen s.blob))

/-- `Thaw(blob)` (R309). -/
def thaw (blob : List Byte) (s : State) : Result :=
  if s.accepts blob then .next ((s.restore blob).answer (.thawed true)) else .next (s.answer (.thawed false))

/-- One port operation (R300). -/
def portStep (op : PortOp) (s : State) : Result :=
  match op with
  | .writeGP0 w => writeGP0 w s
  | .writeGP1 w => writeGP1 w s
  | .readStatus => readStatus s
  | .readData => readData s
  | .setFrameSkip b => setFrameSkip b s
  | .writeStatusRaw v => writeStatusRaw v s
  | .freeze => freeze s
  | .thaw blob => thaw blob s
  | .powerOn => .next s.powerOn

/-- Take the host's next pending operation, or rest: with nothing pending nothing happens, and every state is a legal resting state
(R332; log 1). -/
def nextPort (s : State) : Result :=
  match s.inputs with
  | [] => .next s
  | op :: rest => portStep op { s with inputs := rest }

/-- `FeedGP0(ws)` (R301). -/
def feedGP0 (ws : List Word) : List PortOp := ws.map .writeGP0

/-- `FeedGP1(ws)` (R301). -/
def feedGP1 (ws : List Word) : List PortOp := ws.map .writeGP1

/-- A sequence of port operations, stopping at the first that does not answer a next state. -/
def portSteps : List PortOp → State → Result
  | [], s => .next s
  | op :: ops, s =>
    match portStep op s with
    | .next t => portSteps ops t
    | .fault f => .fault f
    | .refused r => .refused r

end Sys2Proof.Machine
end

