-- ==== Sys2Proof/Machine/Step.lean ====
section
/-!
DEFINITION. Machine/Step.lean: one step (spec/00_scope.md R15), under a configuration the spec accepts (R8, U16).
-/

namespace Sys2Proof.Machine

/-- One step: the host's next pending port operation; with none, the block rests. -/
def step (s : State) : Host.Outcome State Fault Refusal :=
  if s.cfg.wf then nextPort s else .refused .illFormedConfig

/-- `s` with the rendering command whose bits are `w` placed where the next step completes and runs it (log 9). -/
def State.withFetchWord (s : State) (nbits w : Nat) : State :=
  s.placeCommand (headCommand s.cfg (tableStream nbits w))

end Sys2Proof.Machine
end

