-- ==== Sys2Proof/WellFormed.lean ====
section
/-!
DEFINITION. WellFormed.lean: which terms of `Instr` are commands that the encoding of spec/30_encoding.md can hold under a dispatch
table (R102, R108, R110; spec/42_line.md R173, R174). Field widths are in the types; what is left is whether the table gives the id
this handler at its length of R102, whether an unknown id is unknown, and the length of a poly-line.
-/

namespace Sys2Proof

/-- The table gives `id` the handler `h` at the length of R102. -/
def Config.selects (c : Config) (id : BitVec 8) (h : Handler) : Bool := c.entry id == some ⟨h.length, h⟩

/-- The table gives some id the handler `h` at the length of R102. -/
def Config.reaches (c : Config) (h : Handler) : Bool := c.table.contains (some ⟨h.length, h⟩)

/-- The table gives `id` no entry: it is unknown (R110). -/
def Config.unknown (c : Config) (id : BitVec 8) : Bool := (c.entry id).isNone

/-- `i` is a command under the table of `c`. A terminated mono poly-line has 2 to 252 vertices and a cut one 253 (R173); a terminated
shaded one 2 to 127 and a cut one 127 (R174). Every control word is a command (R111). -/
def Instr.wellFormed (c : Config) : Instr → Bool
  | .fill _ _ _ => c.reaches .fill
  | .irq1 => c.reaches .irq1
  | .polyF3 idHigh idLow _ _ _ _ => c.selects (idHigh ++ idLow) .polyF3
  | .polyFT3 idHigh idLow _ _ _ _ _ _ _ _ _ => c.selects (idHigh ++ idLow) .polyFT3
  | .polyF4 idHigh idLow _ _ _ _ _ => c.selects (idHigh ++ idLow) .polyF4
  | .polyFT4 idHigh idLow _ _ _ _ _ _ _ _ _ _ _ => c.selects (idHigh ++ idLow) .polyFT4
  | .polyG3 idHigh idLow _ _ _ _ _ _ => c.selects (idHigh ++ idLow) .polyG3
  | .polyGT3 idHigh idLow _ _ _ _ _ _ _ _ _ _ _ => c.selects (idHigh ++ idLow) .polyGT3
  | .polyG4 idHigh idLow _ _ _ _ _ _ _ _ => c.selects (idHigh ++ idLow) .polyG4
  | .polyGT4 idHigh idLow _ _ _ _ _ _ _ _ _ _ _ _ _ _ => c.selects (idHigh ++ idLow) .polyGT4
  | .lineF2 idHigh semi b0 _ _ _ => c.selects (lineId idHigh semi b0) .lineF2
  | .plineF idHigh semi b0 _ vs terminated =>
    c.selects (lineId idHigh semi b0) .plineF && (if terminated then 2 ≤ vs.length && vs.length ≤ 252 else vs.length == 253)
  | .lineG2 idHigh semi b0 _ _ _ _ => c.selects (lineId idHigh semi b0) .lineG2
  | .plineG idHigh semi b0 cvs terminated =>
    c.selects (lineId idHigh semi b0) .plineG && (if terminated then 2 ≤ cvs.length && cvs.length ≤ 127 else cvs.length == 127)
  | .tile idHigh idLow _ _ _ => c.selects (idHigh ++ idLow) .tile
  | .sprt idHigh idLow _ _ _ _ _ => c.selects (idHigh ++ idLow) .sprt
  | .tile1 idHigh idLow _ _ => c.selects (idHigh ++ idLow) .tile1
  | .sprt1 idHigh idLow _ _ _ _ => c.selects (idHigh ++ idLow) .sprt1
  | .tile8 idHigh idLow _ _ => c.selects (idHigh ++ idLow) .tile8
  | .sprt8 idHigh idLow _ _ _ _ => c.selects (idHigh ++ idLow) .sprt8
  | .tile16 idHigh idLow _ _ => c.selects (idHigh ++ idLow) .tile16
  | .sprt16 idHigh idLow _ _ _ _ => c.selects (idHigh ++ idLow) .sprt16
  | .move id _ _ _ => c.selects id .move
  | .load id _ _ => c.selects id .load
  | .store id _ _ => c.selects id .store
  | .texpage _ _ _ => c.reaches .texpage
  | .texwin _ => c.reaches .texwin
  | .drawareaTL _ => c.reaches .drawareaTL
  | .drawareaBR _ => c.reaches .drawareaBR
  | .drawofs _ => c.reaches .drawofs
  | .maskset _ _ => c.reaches .maskset
  | .unknown00 => c.unknown 0x00#8 | .unknown01 => c.unknown 0x01#8 | .unknown03 => c.unknown 0x03#8
  | .unknown04 => c.unknown 0x04#8 | .unknown05 => c.unknown 0x05#8 | .unknown06 => c.unknown 0x06#8
  | .unknown07 => c.unknown 0x07#8 | .unknown08 => c.unknown 0x08#8 | .unknown09 => c.unknown 0x09#8
  | .unknown0A => c.unknown 0x0A#8 | .unknown0B => c.unknown 0x0B#8 | .unknown0C => c.unknown 0x0C#8
  | .unknown0D => c.unknown 0x0D#8 | .unknown0E => c.unknown 0x0E#8 | .unknown0F => c.unknown 0x0F#8
  | .unknown10 => c.unknown 0x10#8 | .unknown11 => c.unknown 0x11#8 | .unknown12 => c.unknown 0x12#8
  | .unknown13 => c.unknown 0x13#8 | .unknown14 => c.unknown 0x14#8 | .unknown15 => c.unknown 0x15#8
  | .unknown16 => c.unknown 0x16#8 | .unknown17 => c.unknown 0x17#8 | .unknown18 => c.unknown 0x18#8
  | .unknown19 => c.unknown 0x19#8 | .unknown1A => c.unknown 0x1A#8 | .unknown1B => c.unknown 0x1B#8
  | .unknown1C => c.unknown 0x1C#8 | .unknown1D => c.unknown 0x1D#8 | .unknown1E => c.unknown 0x1E#8
  | .unknown81 => c.unknown 0x81#8 | .unknown82 => c.unknown 0x82#8 | .unknown83 => c.unknown 0x83#8
  | .unknown84 => c.unknown 0x84#8 | .unknown85 => c.unknown 0x85#8 | .unknown86 => c.unknown 0x86#8
  | .unknown87 => c.unknown 0x87#8 | .unknown88 => c.unknown 0x88#8 | .unknown89 => c.unknown 0x89#8
  | .unknown8A => c.unknown 0x8A#8 | .unknown8B => c.unknown 0x8B#8 | .unknown8C => c.unknown 0x8C#8
  | .unknown8D => c.unknown 0x8D#8 | .unknown8E => c.unknown 0x8E#8 | .unknown8F => c.unknown 0x8F#8
  | .unknown90 => c.unknown 0x90#8 | .unknown91 => c.unknown 0x91#8 | .unknown92 => c.unknown 0x92#8
  | .unknown93 => c.unknown 0x93#8 | .unknown94 => c.unknown 0x94#8 | .unknown95 => c.unknown 0x95#8
  | .unknown96 => c.unknown 0x96#8 | .unknown97 => c.unknown 0x97#8 | .unknown98 => c.unknown 0x98#8
  | .unknown99 => c.unknown 0x99#8 | .unknown9A => c.unknown 0x9A#8 | .unknown9B => c.unknown 0x9B#8
  | .unknown9C => c.unknown 0x9C#8 | .unknown9D => c.unknown 0x9D#8 | .unknown9E => c.unknown 0x9E#8
  | .unknown9F => c.unknown 0x9F#8 | .unknownA1 => c.unknown 0xA1#8 | .unknownA2 => c.unknown 0xA2#8
  | .unknownA3 => c.unknown 0xA3#8 | .unknownA4 => c.unknown 0xA4#8 | .unknownA5 => c.unknown 0xA5#8
  | .unknownA6 => c.unknown 0xA6#8 | .unknownA7 => c.unknown 0xA7#8 | .unknownA8 => c.unknown 0xA8#8
  | .unknownA9 => c.unknown 0xA9#8 | .unknownAA => c.unknown 0xAA#8 | .unknownAB => c.unknown 0xAB#8
  | .unknownAC => c.unknown 0xAC#8 | .unknownAD => c.unknown 0xAD#8 | .unknownAE => c.unknown 0xAE#8
  | .unknownAF => c.unknown 0xAF#8 | .unknownB0 => c.unknown 0xB0#8 | .unknownB1 => c.unknown 0xB1#8
  | .unknownB2 => c.unknown 0xB2#8 | .unknownB3 => c.unknown 0xB3#8 | .unknownB4 => c.unknown 0xB4#8
  | .unknownB5 => c.unknown 0xB5#8 | .unknownB6 => c.unknown 0xB6#8 | .unknownB7 => c.unknown 0xB7#8
  | .unknownB8 => c.unknown 0xB8#8 | .unknownB9 => c.unknown 0xB9#8 | .unknownBA => c.unknown 0xBA#8
  | .unknownBB => c.unknown 0xBB#8 | .unknownBC => c.unknown 0xBC#8 | .unknownBD => c.unknown 0xBD#8
  | .unknownBE => c.unknown 0xBE#8 | .unknownBF => c.unknown 0xBF#8 | .unknownC1 => c.unknown 0xC1#8
  | .unknownC2 => c.unknown 0xC2#8 | .unknownC3 => c.unknown 0xC3#8 | .unknownC4 => c.unknown 0xC4#8
  | .unknownC5 => c.unknown 0xC5#8 | .unknownC6 => c.unknown 0xC6#8 | .unknownC7 => c.unknown 0xC7#8
  | .unknownC8 => c.unknown 0xC8#8 | .unknownC9 => c.unknown 0xC9#8 | .unknownCA => c.unknown 0xCA#8
  | .unknownCB => c.unknown 0xCB#8 | .unknownCC => c.unknown 0xCC#8 | .unknownCD => c.unknown 0xCD#8
  | .unknownCE => c.unknown 0xCE#8 | .unknownCF => c.unknown 0xCF#8 | .unknownD0 => c.unknown 0xD0#8
  | .unknownD1 => c.unknown 0xD1#8 | .unknownD2 => c.unknown 0xD2#8 | .unknownD3 => c.unknown 0xD3#8
  | .unknownD4 => c.unknown 0xD4#8 | .unknownD5 => c.unknown 0xD5#8 | .unknownD6 => c.unknown 0xD6#8
  | .unknownD7 => c.unknown 0xD7#8 | .unknownD8 => c.unknown 0xD8#8 | .unknownD9 => c.unknown 0xD9#8
  | .unknownDA => c.unknown 0xDA#8 | .unknownDB => c.unknown 0xDB#8 | .unknownDC => c.unknown 0xDC#8
  | .unknownDD => c.unknown 0xDD#8 | .unknownDE => c.unknown 0xDE#8 | .unknownDF => c.unknown 0xDF#8
  | .unknownE0 => c.unknown 0xE0#8 | .unknownE7 => c.unknown 0xE7#8 | .unknownE8 => c.unknown 0xE8#8
  | .unknownE9 => c.unknown 0xE9#8 | .unknownEA => c.unknown 0xEA#8 | .unknownEB => c.unknown 0xEB#8
  | .unknownEC => c.unknown 0xEC#8 | .unknownED => c.unknown 0xED#8 | .unknownEE => c.unknown 0xEE#8
  | .unknownEF => c.unknown 0xEF#8 | .unknownF0 => c.unknown 0xF0#8 | .unknownF1 => c.unknown 0xF1#8
  | .unknownF2 => c.unknown 0xF2#8 | .unknownF3 => c.unknown 0xF3#8 | .unknownF4 => c.unknown 0xF4#8
  | .unknownF5 => c.unknown 0xF5#8 | .unknownF6 => c.unknown 0xF6#8 | .unknownF7 => c.unknown 0xF7#8
  | .unknownF8 => c.unknown 0xF8#8 | .unknownF9 => c.unknown 0xF9#8 | .unknownFA => c.unknown 0xFA#8
  | .unknownFB => c.unknown 0xFB#8 | .unknownFC => c.unknown 0xFC#8 | .unknownFD => c.unknown 0xFD#8
  | .unknownFE => c.unknown 0xFE#8 | .unknownFF => c.unknown 0xFF#8
  | .cReset _ _ | .cClearfifo _ _ | .cAckirq _ _ | .cDispen _ _ | .cDmadir _ _ | .cDisporg _ _ | .cHrange _ _ | .cVrange _ _
  | .cDispmode _ _ | .cTexdis _ _ | .cGpuinfo _ _ _ | .cUnknown0A _ _ | .cUnknown0B _ _ | .cUnknown0C _ _ | .cUnknown0D _ _
  | .cUnknown0E _ _ | .cUnknown0F _ _ | .cUnknown20 _ _ | .cUnknown21 _ _ | .cUnknown22 _ _ | .cUnknown23 _ _ | .cUnknown24 _ _
  | .cUnknown25 _ _ | .cUnknown26 _ _ | .cUnknown27 _ _ | .cUnknown28 _ _ | .cUnknown29 _ _ | .cUnknown2A _ _ | .cUnknown2B _ _
  | .cUnknown2C _ _ | .cUnknown2D _ _ | .cUnknown2E _ _ | .cUnknown2F _ _ | .cUnknown30 _ _ | .cUnknown31 _ _ | .cUnknown32 _ _
  | .cUnknown33 _ _ | .cUnknown34 _ _ | .cUnknown35 _ _ | .cUnknown36 _ _ | .cUnknown37 _ _ | .cUnknown38 _ _ | .cUnknown39 _ _
  | .cUnknown3A _ _ | .cUnknown3B _ _ | .cUnknown3C _ _ | .cUnknown3D _ _ | .cUnknown3E _ _ | .cUnknown3F _ _ => true

end Sys2Proof
end

