-- ==== Sys2Proof/Safety.lean ====
section
/-!
DEFINITION. Safety.lean: what a good state of the block is, and the words the statements are written in: ids of a range, rectangles
with wrap-around, the bytes a texel occupies, the control word's history entry, the families of commands.
-/

namespace Sys2Proof.Machine

/-! ### Good states -/

/-- The ranges of a live transfer cursor (spec/10_state.md R41, R42): the cursor is on a texel of its rectangle, and `rem` is the
number of words its texels from there on still take (spec/20_memory.md R87). -/
abbrev Cursor.live (c : Cursor) : Prop :=
  1 ≤ c.wid ∧ c.wid ≤ 1024 ∧ 1 ≤ c.hgt ∧ c.hgt ≤ 512 ∧ c.col < c.wid ∧ c.row < c.hgt ∧
    c.rem = (c.wid * c.hgt - (c.row * c.wid + c.col) + 1) / 2

/-- Idle, or accumulating a command of a known id below its maximum length (spec/46_assembler.md R254). -/
abbrev State.bufferOk (s : State) : Prop :=
  s.cmdbuf = [] ∨ s.bufcnt < s.cfg.maxLen (cmdId (s.cmdbuf.headD 0))

/-- The invariant of the block: an accepted configuration (R8, U16), VRAM in its canonical form, the buffer bound (R254),
pass-through only with an empty buffer (R240) and with a live cursor (R41), an open read transfer with a live cursor (R42), and a
busy counter within its bound (R43). -/
abbrev State.Inv (s : State) : Prop :=
  s.cfg.wf = true ∧ s.vram.wf ∧ s.bufferOk ∧ (s.wmode = .passthrough → s.cmdbuf = [] ∧ s.wcur.live) ∧
    (s.rmode = .vramRead → s.rcur.live) ∧ s.busycnt ≤ s.cfg.fakeBusyReads

/-- `CSR.VRDY` is 1 exactly while a read transfer is open (R28, R42). -/
abbrev State.vrdyAgrees (s : State) : Prop := Csr.vrdy s.csr = decide (s.rmode = .vramRead)

/-! ### The words of the statements -/

/-- The id of a first word lies in `lo..hi`. -/
abbrev idIn (lo hi : Nat) (w : Word) : Prop := lo ≤ (cmdId w).toNat ∧ (cmdId w).toNat ≤ hi

/-- The coordinates of a vertex word, `(VtxX(w), VtxY(w))` (R132). -/
abbrev vertexOf (w : Word) : Int × Int := (vtxX w, vtxY w)

/-- The state after `Emit(r)` with nothing else changed (R13). -/
abbrev State.emitted (s : State) (r : Record) : State := { s with out := s.out ++ [(r, s.snapshot)] }

/-- The state after `CTRLHIST[w[31:24]] <- w` with nothing else changed (R270). -/
abbrev State.recorded (s : State) (w : Word) : State :=
  { s with ctrlhist := s.ctrlhist.set (cmdId w).toNat w (cmdId w).isLt }

/-- Texel (x, y) is in the rectangle of `ww` by `hh` texels from (x0, y0), with wrap-around (R71). -/
abbrev inRect (x0 y0 ww hh x y : Nat) : Prop :=
  ∃ i < ww, ∃ j < hh, x = (x0 + i) % 1024 ∧ y = (y0 + j) % 512

/-- Byte address `a` belongs to no texel of the rectangle of `ww` by `hh` texels from (x0, y0) (R72). -/
abbrev outsideRect (x0 y0 ww hh a : Nat) : Prop :=
  ∀ i < ww, ∀ j < hh, a ≠ texelAddr (x0 + i) (y0 + j) ∧ a ≠ texelAddr (x0 + i) (y0 + j) + 1

/-- Texel `k` of a transfer stream: the low half of word `k div 2` for even `k`, the high half for odd `k` (R74, R84). -/
def streamTexel (words : List Word) (k : Nat) : BitVec 16 :=
  if k % 2 = 0 then (words.getD (k / 2) 0).extractLsb' 0 16 else (words.getD (k / 2) 0).extractLsb' 16 16

/-- The texels a masked store may leave at a place that held `old` (R80). -/
def maskedResult (csr : Word) (old v : BitVec 16) : BitVec 16 :=
  if Csr.me csr && old.getLsbD 15 then old else if Csr.md csr then v ||| 0x8000#16 else v

end Sys2Proof.Machine

namespace Sys2Proof

/-- The geometry commands: polygons, lines, tiles and sprites (spec/00_scope.md R19, R251). -/
def Instr.isGeometry : Instr → Bool
  | .polyF3 _ _ _ _ _ _ | .polyFT3 _ _ _ _ _ _ _ _ _ _ _ | .polyF4 _ _ _ _ _ _ _ | .polyFT4 _ _ _ _ _ _ _ _ _ _ _ _ _
  | .polyG3 _ _ _ _ _ _ _ _ | .polyGT3 _ _ _ _ _ _ _ _ _ _ _ _ _ | .polyG4 _ _ _ _ _ _ _ _ _ _
  | .polyGT4 _ _ _ _ _ _ _ _ _ _ _ _ _ _ _ _ | .lineF2 _ _ _ _ _ _ | .plineF _ _ _ _ _ _ | .lineG2 _ _ _ _ _ _ _
  | .plineG _ _ _ _ _ | .tile _ _ _ _ _ | .sprt _ _ _ _ _ _ _ | .tile1 _ _ _ _ | .sprt1 _ _ _ _ _ _ | .tile8 _ _ _ _
  | .sprt8 _ _ _ _ _ _ | .tile16 _ _ _ _ | .sprt16 _ _ _ _ _ _ => true
  | .fill _ _ _ | .irq1 | .move _ _ _ _ | .load _ _ _ | .store _ _ _ | .texpage _ _ _ | .texwin _ | .drawareaTL _
  | .drawareaBR _ | .drawofs _ | .maskset _ _ | .cReset _ _ | .cClearfifo _ _ | .cAckirq _ _ | .cDispen _ _ | .cDmadir _ _
  | .cDisporg _ _ | .cHrange _ _ | .cVrange _ _ | .cDispmode _ _ | .cTexdis _ _ | .cGpuinfo _ _ _ | .unknown00 | .unknown01
  | .unknown03 | .unknown04 | .unknown05 | .unknown06 | .unknown07 | .unknown08 | .unknown09 | .unknown0A | .unknown0B
  | .unknown0C | .unknown0D | .unknown0E | .unknown0F | .unknown10 | .unknown11 | .unknown12 | .unknown13 | .unknown14
  | .unknown15 | .unknown16 | .unknown17 | .unknown18 | .unknown19 | .unknown1A | .unknown1B | .unknown1C | .unknown1D
  | .unknown1E | .unknown81 | .unknown82 | .unknown83 | .unknown84 | .unknown85 | .unknown86 | .unknown87 | .unknown88
  | .unknown89 | .unknown8A | .unknown8B | .unknown8C | .unknown8D | .unknown8E | .unknown8F | .unknown90 | .unknown91
  | .unknown92 | .unknown93 | .unknown94 | .unknown95 | .unknown96 | .unknown97 | .unknown98 | .unknown99 | .unknown9A
  | .unknown9B | .unknown9C | .unknown9D | .unknown9E | .unknown9F | .unknownA1 | .unknownA2 | .unknownA3 | .unknownA4
  | .unknownA5 | .unknownA6 | .unknownA7 | .unknownA8 | .unknownA9 | .unknownAA | .unknownAB | .unknownAC | .unknownAD
  | .unknownAE | .unknownAF | .unknownB0 | .unknownB1 | .unknownB2 | .unknownB3 | .unknownB4 | .unknownB5 | .unknownB6
  | .unknownB7 | .unknownB8 | .unknownB9 | .unknownBA | .unknownBB | .unknownBC | .unknownBD | .unknownBE | .unknownBF
  | .unknownC1 | .unknownC2 | .unknownC3 | .unknownC4 | .unknownC5 | .unknownC6 | .unknownC7 | .unknownC8 | .unknownC9
  | .unknownCA | .unknownCB | .unknownCC | .unknownCD | .unknownCE | .unknownCF | .unknownD0 | .unknownD1 | .unknownD2
  | .unknownD3 | .unknownD4 | .unknownD5 | .unknownD6 | .unknownD7 | .unknownD8 | .unknownD9 | .unknownDA | .unknownDB
  | .unknownDC | .unknownDD | .unknownDE | .unknownDF | .unknownE0 | .unknownE7 | .unknownE8 | .unknownE9 | .unknownEA
  | .unknownEB | .unknownEC | .unknownED | .unknownEE | .unknownEF | .unknownF0 | .unknownF1 | .unknownF2 | .unknownF3
  | .unknownF4 | .unknownF5 | .unknownF6 | .unknownF7 | .unknownF8 | .unknownF9 | .unknownFA | .unknownFB | .unknownFC
  | .unknownFD | .unknownFE | .unknownFF | .cUnknown0A _ _ | .cUnknown0B _ _ | .cUnknown0C _ _ | .cUnknown0D _ _
  | .cUnknown0E _ _ | .cUnknown0F _ _ | .cUnknown20 _ _ | .cUnknown21 _ _ | .cUnknown22 _ _ | .cUnknown23 _ _
  | .cUnknown24 _ _ | .cUnknown25 _ _ | .cUnknown26 _ _ | .cUnknown27 _ _ | .cUnknown28 _ _ | .cUnknown29 _ _
  | .cUnknown2A _ _ | .cUnknown2B _ _ | .cUnknown2C _ _ | .cUnknown2D _ _ | .cUnknown2E _ _ | .cUnknown2F _ _
  | .cUnknown30 _ _ | .cUnknown31 _ _ | .cUnknown32 _ _ | .cUnknown33 _ _ | .cUnknown34 _ _ | .cUnknown35 _ _
  | .cUnknown36 _ _ | .cUnknown37 _ _ | .cUnknown38 _ _ | .cUnknown39 _ _ | .cUnknown3A _ _ | .cUnknown3B _ _
  | .cUnknown3C _ _ | .cUnknown3D _ _ | .cUnknown3E _ _ | .cUnknown3F _ _ => false

/-- The unknown rendering ids (R110). -/
def Instr.isUnknown : Instr → Bool
  | .unknown00 | .unknown01 | .unknown03 | .unknown04 | .unknown05 | .unknown06 | .unknown07 | .unknown08 | .unknown09
  | .unknown0A | .unknown0B | .unknown0C | .unknown0D | .unknown0E | .unknown0F | .unknown10 | .unknown11 | .unknown12
  | .unknown13 | .unknown14 | .unknown15 | .unknown16 | .unknown17 | .unknown18 | .unknown19 | .unknown1A | .unknown1B
  | .unknown1C | .unknown1D | .unknown1E | .unknown81 | .unknown82 | .unknown83 | .unknown84 | .unknown85 | .unknown86
  | .unknown87 | .unknown88 | .unknown89 | .unknown8A | .unknown8B | .unknown8C | .unknown8D | .unknown8E | .unknown8F
  | .unknown90 | .unknown91 | .unknown92 | .unknown93 | .unknown94 | .unknown95 | .unknown96 | .unknown97 | .unknown98
  | .unknown99 | .unknown9A | .unknown9B | .unknown9C | .unknown9D | .unknown9E | .unknown9F | .unknownA1 | .unknownA2
  | .unknownA3 | .unknownA4 | .unknownA5 | .unknownA6 | .unknownA7 | .unknownA8 | .unknownA9 | .unknownAA | .unknownAB
  | .unknownAC | .unknownAD | .unknownAE | .unknownAF | .unknownB0 | .unknownB1 | .unknownB2 | .unknownB3 | .unknownB4
  | .unknownB5 | .unknownB6 | .unknownB7 | .unknownB8 | .unknownB9 | .unknownBA | .unknownBB | .unknownBC | .unknownBD
  | .unknownBE | .unknownBF | .unknownC1 | .unknownC2 | .unknownC3 | .unknownC4 | .unknownC5 | .unknownC6 | .unknownC7
  | .unknownC8 | .unknownC9 | .unknownCA | .unknownCB | .unknownCC | .unknownCD | .unknownCE | .unknownCF | .unknownD0
  | .unknownD1 | .unknownD2 | .unknownD3 | .unknownD4 | .unknownD5 | .unknownD6 | .unknownD7 | .unknownD8 | .unknownD9
  | .unknownDA | .unknownDB | .unknownDC | .unknownDD | .unknownDE | .unknownDF | .unknownE0 | .unknownE7 | .unknownE8
  | .unknownE9 | .unknownEA | .unknownEB | .unknownEC | .unknownED | .unknownEE | .unknownEF | .unknownF0 | .unknownF1
  | .unknownF2 | .unknownF3 | .unknownF4 | .unknownF5 | .unknownF6 | .unknownF7 | .unknownF8 | .unknownF9 | .unknownFA
  | .unknownFB | .unknownFC | .unknownFD | .unknownFE | .unknownFF => true
  | .fill _ _ _ | .irq1 | .polyF3 _ _ _ _ _ _ | .polyFT3 _ _ _ _ _ _ _ _ _ _ _ | .polyF4 _ _ _ _ _ _ _
  | .polyFT4 _ _ _ _ _ _ _ _ _ _ _ _ _ | .polyG3 _ _ _ _ _ _ _ _ | .polyGT3 _ _ _ _ _ _ _ _ _ _ _ _ _
  | .polyG4 _ _ _ _ _ _ _ _ _ _ | .polyGT4 _ _ _ _ _ _ _ _ _ _ _ _ _ _ _ _ | .lineF2 _ _ _ _ _ _ | .plineF _ _ _ _ _ _
  | .lineG2 _ _ _ _ _ _ _ | .plineG _ _ _ _ _ | .tile _ _ _ _ _ | .sprt _ _ _ _ _ _ _ | .tile1 _ _ _ _ | .sprt1 _ _ _ _ _ _
  | .tile8 _ _ _ _ | .sprt8 _ _ _ _ _ _ | .tile16 _ _ _ _ | .sprt16 _ _ _ _ _ _ | .move _ _ _ _ | .load _ _ _ | .store _ _ _
  | .texpage _ _ _ | .texwin _ | .drawareaTL _ | .drawareaBR _ | .drawofs _ | .maskset _ _ | .cReset _ _ | .cClearfifo _ _
  | .cAckirq _ _ | .cDispen _ _ | .cDmadir _ _ | .cDisporg _ _ | .cHrange _ _ | .cVrange _ _ | .cDispmode _ _ | .cTexdis _ _
  | .cGpuinfo _ _ _ | .cUnknown0A _ _ | .cUnknown0B _ _ | .cUnknown0C _ _ | .cUnknown0D _ _ | .cUnknown0E _ _
  | .cUnknown0F _ _ | .cUnknown20 _ _ | .cUnknown21 _ _ | .cUnknown22 _ _ | .cUnknown23 _ _ | .cUnknown24 _ _
  | .cUnknown25 _ _ | .cUnknown26 _ _ | .cUnknown27 _ _ | .cUnknown28 _ _ | .cUnknown29 _ _ | .cUnknown2A _ _
  | .cUnknown2B _ _ | .cUnknown2C _ _ | .cUnknown2D _ _ | .cUnknown2E _ _ | .cUnknown2F _ _ | .cUnknown30 _ _
  | .cUnknown31 _ _ | .cUnknown32 _ _ | .cUnknown33 _ _ | .cUnknown34 _ _ | .cUnknown35 _ _ | .cUnknown36 _ _
  | .cUnknown37 _ _ | .cUnknown38 _ _ | .cUnknown39 _ _ | .cUnknown3A _ _ | .cUnknown3B _ _ | .cUnknown3C _ _
  | .cUnknown3D _ _ | .cUnknown3E _ _ | .cUnknown3F _ _ => false

/-- The unknown control ids (R282). -/
def Instr.isUnknownControl : Instr → Bool
  | .cUnknown0A _ _ | .cUnknown0B _ _ | .cUnknown0C _ _ | .cUnknown0D _ _ | .cUnknown0E _ _ | .cUnknown0F _ _
  | .cUnknown20 _ _ | .cUnknown21 _ _ | .cUnknown22 _ _ | .cUnknown23 _ _ | .cUnknown24 _ _ | .cUnknown25 _ _
  | .cUnknown26 _ _ | .cUnknown27 _ _ | .cUnknown28 _ _ | .cUnknown29 _ _ | .cUnknown2A _ _ | .cUnknown2B _ _
  | .cUnknown2C _ _ | .cUnknown2D _ _ | .cUnknown2E _ _ | .cUnknown2F _ _ | .cUnknown30 _ _ | .cUnknown31 _ _
  | .cUnknown32 _ _ | .cUnknown33 _ _ | .cUnknown34 _ _ | .cUnknown35 _ _ | .cUnknown36 _ _ | .cUnknown37 _ _
  | .cUnknown38 _ _ | .cUnknown39 _ _ | .cUnknown3A _ _ | .cUnknown3B _ _ | .cUnknown3C _ _ | .cUnknown3D _ _
  | .cUnknown3E _ _ | .cUnknown3F _ _ => true
  | .fill _ _ _ | .irq1 | .polyF3 _ _ _ _ _ _ | .polyFT3 _ _ _ _ _ _ _ _ _ _ _ | .polyF4 _ _ _ _ _ _ _
  | .polyFT4 _ _ _ _ _ _ _ _ _ _ _ _ _ | .polyG3 _ _ _ _ _ _ _ _ | .polyGT3 _ _ _ _ _ _ _ _ _ _ _ _ _
  | .polyG4 _ _ _ _ _ _ _ _ _ _ | .polyGT4 _ _ _ _ _ _ _ _ _ _ _ _ _ _ _ _ | .lineF2 _ _ _ _ _ _ | .plineF _ _ _ _ _ _
  | .lineG2 _ _ _ _ _ _ _ | .plineG _ _ _ _ _ | .tile _ _ _ _ _ | .sprt _ _ _ _ _ _ _ | .tile1 _ _ _ _ | .sprt1 _ _ _ _ _ _
  | .tile8 _ _ _ _ | .sprt8 _ _ _ _ _ _ | .tile16 _ _ _ _ | .sprt16 _ _ _ _ _ _ | .move _ _ _ _ | .load _ _ _ | .store _ _ _
  | .texpage _ _ _ | .texwin _ | .drawareaTL _ | .drawareaBR _ | .drawofs _ | .maskset _ _ | .cReset _ _ | .cClearfifo _ _
  | .cAckirq _ _ | .cDispen _ _ | .cDmadir _ _ | .cDisporg _ _ | .cHrange _ _ | .cVrange _ _ | .cDispmode _ _ | .cTexdis _ _
  | .cGpuinfo _ _ _ | .unknown00 | .unknown01 | .unknown03 | .unknown04 | .unknown05 | .unknown06 | .unknown07 | .unknown08
  | .unknown09 | .unknown0A | .unknown0B | .unknown0C | .unknown0D | .unknown0E | .unknown0F | .unknown10 | .unknown11
  | .unknown12 | .unknown13 | .unknown14 | .unknown15 | .unknown16 | .unknown17 | .unknown18 | .unknown19 | .unknown1A
  | .unknown1B | .unknown1C | .unknown1D | .unknown1E | .unknown81 | .unknown82 | .unknown83 | .unknown84 | .unknown85
  | .unknown86 | .unknown87 | .unknown88 | .unknown89 | .unknown8A | .unknown8B | .unknown8C | .unknown8D | .unknown8E
  | .unknown8F | .unknown90 | .unknown91 | .unknown92 | .unknown93 | .unknown94 | .unknown95 | .unknown96 | .unknown97
  | .unknown98 | .unknown99 | .unknown9A | .unknown9B | .unknown9C | .unknown9D | .unknown9E | .unknown9F | .unknownA1
  | .unknownA2 | .unknownA3 | .unknownA4 | .unknownA5 | .unknownA6 | .unknownA7 | .unknownA8 | .unknownA9 | .unknownAA
  | .unknownAB | .unknownAC | .unknownAD | .unknownAE | .unknownAF | .unknownB0 | .unknownB1 | .unknownB2 | .unknownB3
  | .unknownB4 | .unknownB5 | .unknownB6 | .unknownB7 | .unknownB8 | .unknownB9 | .unknownBA | .unknownBB | .unknownBC
  | .unknownBD | .unknownBE | .unknownBF | .unknownC1 | .unknownC2 | .unknownC3 | .unknownC4 | .unknownC5 | .unknownC6
  | .unknownC7 | .unknownC8 | .unknownC9 | .unknownCA | .unknownCB | .unknownCC | .unknownCD | .unknownCE | .unknownCF
  | .unknownD0 | .unknownD1 | .unknownD2 | .unknownD3 | .unknownD4 | .unknownD5 | .unknownD6 | .unknownD7 | .unknownD8
  | .unknownD9 | .unknownDA | .unknownDB | .unknownDC | .unknownDD | .unknownDE | .unknownDF | .unknownE0 | .unknownE7
  | .unknownE8 | .unknownE9 | .unknownEA | .unknownEB | .unknownEC | .unknownED | .unknownEE | .unknownEF | .unknownF0
  | .unknownF1 | .unknownF2 | .unknownF3 | .unknownF4 | .unknownF5 | .unknownF6 | .unknownF7 | .unknownF8 | .unknownF9
  | .unknownFA | .unknownFB | .unknownFC | .unknownFD | .unknownFE | .unknownFF => false

end Sys2Proof
end

