-- ==== Sys2Proof/Certificates/Slice0/Obligations.lean ====
section
/-!
DEFINITION. Certificates/Slice0/Obligations.lean: what is claimed of the model, stated from the numbered rules of spec/. A statement
about a free value holds for every value of it.
-/

open Sys2Proof Sys2Proof.Machine

/-! ### A step runs the decoded command -/

/-- A pending word that completes a command runs it. When the next GP0 word completes the buffered command, and the words decode to
`i` under the dispatch table, the step is `exec i`, followed by the end of `Dispatch` (R244, R248, R249), unless `i` is skippable while
frames are skipped; a first word of an unknown id, which is a whole command (R242), and every control word (R270) run their command
alone. Where the table gives the id fewer words than its handler reads, the missing words are free values (the model's choice, log 26).
The queue of pending operations is the model's choice (log 1). -/
def Obligations.StepRunsDecodedCommand : Prop :=
  ∀ (s : State) (w : Word) (rest : List PortOp), s.cfg.wf = true →
    let buf := s.cmdbuf ++ [w]
    (s.wmode = .framing → s.inputs = .writeGP0 w :: rest →
      (∀ i, decodeGP0 s.cfg buf = .ok (i, []) →
        (i.isUnknown = false → (s.frameskip && s.cfg.skippable (cmdId (buf.headD 0))) = false →
          step s = endDispatch (exec i { s with inputs := rest, cmdbuf := buf })) ∧
        (i.isUnknown = true → step s = exec i { s with inputs := rest })) ∧
      (∀ e ws terminated, s.cfg.entry (cmdId (buf.headD 0)) = some e → frame e.length 0 buf = some (ws, terminated, []) →
        ws.length < e.handler.words → (s.frameskip && s.cfg.skippable (cmdId (buf.headD 0))) = false →
        step s = endDispatch (exec
          (assemble e.handler terminated
            (ws ++ (List.range (e.handler.words - ws.length)).map fun k => Config.deadWord s.freeCount (ws.length + k)))
          { s with inputs := rest, cmdbuf := buf, freeCount := s.freeCount + 1 }))) ∧
    (s.inputs = .writeGP1 w :: rest → step s = exec (decodeGP1 w) { s with inputs := rest })

/-- While the buffered words and the next one are not yet a command, the word is only buffered (R243, R244); the word that completes a
skippable command while frames are skipped ends it with nothing done but the busy arming (R248, R250), whatever the table.
Rests on the spec's own decisions D9, D10 of 92_eei_decisions.md. -/
def Obligations.StepBuffersOrSkips : Prop :=
  ∀ (s : State) (w : Word) (rest : List PortOp),
    s.cfg.wf = true → s.wmode = .framing → s.inputs = .writeGP0 w :: rest →
    let buf := s.cmdbuf ++ [w]
    (decodeGP0 s.cfg buf = .error .truncated → step s = .next { s with inputs := rest, cmdbuf := buf }) ∧
    (∀ e ws terminated, s.cfg.entry (cmdId (buf.headD 0)) = some e → frame e.length 0 buf = some (ws, terminated, []) →
      s.frameskip = true → s.cfg.skippable (cmdId (buf.headD 0)) = true →
      step s = .next { s with
        inputs := rest
        cmdbuf := []
        busycnt := if 0 < s.cfg.fakeBusyReads then s.cfg.fakeBusyReads else s.busycnt })

/-- A step is one port operation: the first pending one; with nothing pending the block rests (the model's choice, log 1); a GP0 word
in pass-through is data whatever its bits (R15, R241, R328, R332). A step is refused exactly when the dispatch table breaks one of
the conditions R8 gives (a fixed length outside 1..256, length 0 with a handler among them; a variable length without a line handler),
or the skippable range holds an id whose handler is one of eleven: that second cut is the model's reading of U16, its choice (log 8),
the texture-page write-back of R159 not counted among the lasting effects.
Rests on the spec's own decisions D3, D9 of 92_eei_decisions.md. -/
def Obligations.StepTakesOnePortOperation : Prop :=
  ∀ (s : State),
    (step s = .refused .illFormedConfig ↔
      ¬((∀ e, some e ∈ s.cfg.dispatch.toList →
          (∀ n, e.length = .fixed n → 1 ≤ n ∧ n ≤ 256) ∧
          (e.length = .varF ∨ e.length = .varG → e.handler ∈ [Handler.lineF2, .plineF, .lineG2, .plineG])) ∧
        ∀ id e, s.cfg.skipLo ≤ id → id ≤ s.cfg.skipHi → s.cfg.entry id = some e →
          e.handler ∉ [Handler.fill, .irq1, .move, .load, .store, .texpage, .texwin, .drawareaTL, .drawareaBR, .drawofs,
            .maskset])) ∧
    (s.cfg.wf = true →
      (s.inputs = [] → step s = .next s) ∧
      (∀ op rest, s.inputs = op :: rest → step s = portStep op { s with inputs := rest }) ∧
      (∀ w rest, s.inputs = .writeGP0 w :: rest → s.wmode = .passthrough →
        step s = .next ({ s with inputs := rest }.passthroughWord w)))

/-! ### Encoding -/

/-- Decoding the words of any well-formed command of either channel, under any dispatch table, gives it back, and leaves the words after
it (R8, R102, R111).
Rests on the spec's own decisions D3, D4, D5, D7, D8, D15, D16, D17 of 92_eei_decisions.md. -/
def Obligations.DecodeEncodeAgree : Prop :=
  ∀ (c : Config) (i : Instr) (rest : List Word), i.wellFormed c = true →
    decode c i.channel (encode c i ++ rest) = .ok (i, rest)

/-- Every control word is the one word of the command it decodes to: no bit of it is dropped (R111, R45).
Rests on the spec's own decisions D16, D17 of 92_eei_decisions.md. -/
def Obligations.ControlWordsEncodeBack : Prop :=
  ∀ (c : Config) (w : Word), encode c (decodeGP1 w) = [w] ∧ (decodeGP1 w).channel = .gp1

/-- What the decoder answers, under any dispatch table, is a command of its channel, cut off the front of the stream; when the table
gives every handler its length of R102, as the default does, it is well-formed (R100, R102, R113).
Rests on the spec's own decisions D3, D4, D8 of 92_eei_decisions.md. -/
def Obligations.DecodedCommandsWellFormed : Prop :=
  ∀ (c : Config) (ch : Channel) (stream rest : List Word) (i : Instr), decode c ch stream = .ok (i, rest) →
    i.channel = ch ∧ (∃ ws, ws ≠ [] ∧ stream = ws ++ rest) ∧
    ((∀ id e, c.entry id = some e → e.length = e.handler.length) → i.wellFormed c = true)

/-- A few words written out from the spec's encodings decode to the commands they stand for (R101, R102, R111).
Rests on the spec's own decisions D3, D4, D5, D15, D16 of 92_eei_decisions.md. -/
def Obligations.WrittenOutWordsDecode : Prop :=
  decodeGP0 Config.default [0x20000000, 0x00100010, 0x00200020, 0x00300030] =
      .ok (.polyF3 0x08 0 0 ⟨16, 16⟩ ⟨32, 32⟩ ⟨48, 48⟩, []) ∧
    decodeGP0 Config.default [0x48FF0000, 0x00000000, 0x000A000A, 0x55555555] =
      .ok (.plineF 0x12 false false 0xFF0000 [⟨0, 0⟩, ⟨10, 10⟩] true, []) ∧
    decodeGP0 Config.default [0x02FF8040, 0x01FF03F0, 0x00020014] = .ok (.fill 0xFF8040 ⟨1008, 511⟩ ⟨20, 2⟩, []) ∧
    decodeGP0 Config.default [0xE100062A] = .ok (.texpage 0x62A false 0, []) ∧
    decodeGP0 Config.default [0x00000000] = .ok (.unknown00, []) ∧
    decodeGP1 0x48000009 = .cDispmode 1 9 ∧
    decodeGP1 0x17000002 = .cGpuinfo 0 7 2

/-- Each reader gives the field of its window: `CmdId`, the raw vertex coordinates, the sizes, the positions, the texture coordinates, the
half-word of CLUT and texture page, the colour and its channels (R131, R134, R135, R137, R138, R141); and two words give the same fields
iff they agree on those windows, so the other bits are ignored (R101, R114).
Rests on the spec's own decisions D5, D6, D7 of 92_eei_decisions.md. -/
def Obligations.ReadersUseExactlyTheirBits : Prop :=
  (∀ (w : Word),
    (cmdId w).toNat = w.toNat / 2 ^ 24 ∧
    (vtxOf w).x.toNat = w.toNat % 2048 ∧ (vtxOf w).y.toNat = w.toNat / 2 ^ 16 % 2048 ∧
    (sizeFieldsOf w).w.toNat = w.toNat % 1024 ∧ (sizeFieldsOf w).h.toNat = w.toNat / 2 ^ 16 % 512 ∧
    (posOf w).x.toNat = w.toNat % 1024 ∧ (posOf w).y.toNat = w.toNat / 2 ^ 16 % 512 ∧
    (uvOf w).u.toNat = w.toNat % 256 ∧ (uvOf w).v.toNat = w.toNat / 2 ^ 8 % 256 ∧
    (highHalf w).toNat = w.toNat / 2 ^ 16 ∧
    (colour24 w).toNat = w.toNat % 2 ^ 24 ∧
    (channels (colour24 w)).1.toNat = w.toNat % 256 ∧ (channels (colour24 w)).2.1.toNat = w.toNat / 2 ^ 8 % 256 ∧
    (channels (colour24 w)).2.2.toNat = w.toNat / 2 ^ 16 % 256) ∧
  ∀ (w w' : Word),
    (cmdId w = cmdId w' ↔ w &&& 0xFF000000 = w' &&& 0xFF000000) ∧
    (vtxOf w = vtxOf w' ↔ w &&& 0x07FF07FF = w' &&& 0x07FF07FF) ∧
    (sizeFieldsOf w = sizeFieldsOf w' ↔ w &&& 0x01FF03FF = w' &&& 0x01FF03FF) ∧
    (posOf w = posOf w' ↔ w &&& 0x01FF03FF = w' &&& 0x01FF03FF) ∧
    (colour24 w = colour24 w' ↔ w &&& 0x00FFFFFF = w' &&& 0x00FFFFFF) ∧
    (uvOf w = uvOf w' ↔ w &&& 0x0000FFFF = w' &&& 0x0000FFFF) ∧
    (highHalf w = highHalf w' ↔ w &&& 0xFFFF0000 = w' &&& 0xFFFF0000)

/-- Vertex coordinates are 11-bit two's complement, X in bits 0 to 10, Y in bits 16 to 26, all other bits ignored, and lie in
[-1024, 1023] (R132). -/
def Obligations.VertexCoordinatesSignExtend : Prop :=
  ∀ (w : Word),
    vtxX w = (if w.getLsbD 10 then ((w.toNat % 2048 : Nat) : Int) - 2048 else ((w.toNat % 2048 : Nat) : Int)) ∧
    vtxY w = (if w.getLsbD 26 then ((w.toNat / 65536 % 2048 : Nat) : Int) - 2048
      else ((w.toNat / 65536 % 2048 : Nat) : Int)) ∧
    -1024 ≤ vtxX w ∧ vtxX w ≤ 1023 ∧ -1024 ≤ vtxY w ∧ vtxY w ≤ 1023

/-- The 15-bit colour keeps the top five bits of each channel, red in bits 4:0, green in 9:5, blue in 14:10, bit 15 zero (R136).
Rests on the spec's own decision D6 of 92_eei_decisions.md. -/
def Obligations.ColourNarrowingTruncates : Prop :=
  ∀ (c : Colour) (k : Nat),
    (to15 c).getLsbD k =
      if k < 5 then c.getLsbD (k + 3)
      else if k < 10 then c.getLsbD (k + 6)
      else if k < 15 then c.getLsbD (k + 9)
      else false

/-- A word is a terminator iff its bits 31:28 and 15:12 are both 5; its other 24 bits are free (R140). -/
def Obligations.TerminatorTestsTwoNibbles : Prop :=
  ∀ (w : Word), isTerm w = true ↔ w.extractLsb' 28 4 = 5#4 ∧ w.extractLsb' 12 4 = 5#4

/-! ### The assembler -/

/-- Feeding the words of any known rendering command, one step a word, from Idle, runs its handler exactly once, at the last word,
unless the command is geometry and frames are skipped, under any accepted table (R242 to R249, R251). That only geometry is ever
skipped is the model's reading of U16 (log 8).
Rests on the spec's own decisions D3, D4, D8 of 92_eei_decisions.md. -/
def Obligations.StreamedCommandRunsOnce : Prop :=
  ∀ (s : State) (i : Instr),
    s.cfg.wf = true → s.wmode = .framing → s.cmdbuf = [] → i.channel = .gp0 →
    i.wellFormed s.cfg = true → i.isUnknown = false → (s.frameskip = false ∨ i.isGeometry = false) →
    portSteps (feedGP0 (encode s.cfg i)) s = endDispatch (exec i s)

/-- Feeding the words of a skippable command while frames are skipped consumes them all, for every table and every skippable range: no
record, no VRAM change, no register written but the busy counter, which a skipped dispatch arms too, and the buffer empty again. Under
the default table and range the skippable commands are the geometry commands (R250, R251; the forms of a poly-line are log 13).
Rests on the spec's own decisions D3, D8, D9, D10 of 92_eei_decisions.md. -/
def Obligations.SkippedGeometryConsumesItsWords : Prop :=
  (∀ (s : State) (i : Instr),
    s.wmode = .framing → s.cmdbuf = [] → s.frameskip = true →
    i.channel = .gp0 → i.isUnknown = false → i.wellFormed s.cfg = true →
    s.cfg.skippable (cmdId ((encode s.cfg i).headD 0)) = true →
    portSteps (feedGP0 (encode s.cfg i)) s = .next { s with
      busycnt := if 0 < s.cfg.fakeBusyReads then s.cfg.fakeBusyReads else s.busycnt }) ∧
  ∀ (i : Instr), i.channel = .gp0 → i.isUnknown = false → i.wellFormed Config.default = true →
    (Config.default.skippable (cmdId ((encode Config.default i).headD 0)) = true ↔ i.isGeometry = true)

/-- A first word of an id with no entry is discarded with no state change at all, whatever the table, and with the default table the
unknown ids are those R110 lists.
Rests on the spec's own decision D3 of 92_eei_decisions.md. -/
def Obligations.UnknownIdDiscardsOneWord : Prop :=
  (∀ (s : State) (w : Word),
    s.wmode = .framing → s.cmdbuf = [] → s.cfg.entry (cmdId w) = none → portStep (.writeGP0 w) s = .next s) ∧
  ∀ (w : Word), Config.default.entry (cmdId w) = none ↔
    (idIn 0x00 0x01 w ∨ idIn 0x03 0x1E w ∨ idIn 0x81 0x9F w ∨ idIn 0xA1 0xBF w ∨ idIn 0xC1 0xE0 w ∨ idIn 0xE7 0xFF w)

/-- A mono poly-line none of whose tested words (index 3 and above) is a terminator is dispatched at its 254th word, with 253
vertices, not terminated (R175, R247).
Rests on the spec's own decisions D3, D4, D8 of 92_eei_decisions.md. -/
def Obligations.MonoPolylineForcedEnd : Prop :=
  ∀ (s : State) (w0 : Word) (ws : List Word),
    s.wmode = .framing → s.cmdbuf = [] → s.frameskip = false → s.cfg.entry (cmdId w0) = some ⟨.varF, .plineF⟩ →
    ws.length = 253 →
    (∀ k, 2 ≤ k → k < 253 → isTerm (ws.getD k 0) = false) →
    (∀ n < 253, portSteps (feedGP0 (w0 :: ws.take n)) s = .next { s with cmdbuf := w0 :: ws.take n }) ∧
    portSteps (feedGP0 (w0 :: ws)) s = .next (s.emitted (.line {
      id := cmdId w0, shaded := false, poly := true, semi := w0.getLsbD 25, n := 253
      v := ws.map vertexOf, c := List.replicate 253 (colour24 w0), terminated := some false })).endDispatch

/-- A shaded poly-line none of whose tested words (even index 4 and above) is a terminator is dispatched at its 255th word, with 127
vertices, not terminated; its last word, a colour with no vertex, is in no record (R174, R175, R247).
Rests on the spec's own decisions D3, D4, D8 of 92_eei_decisions.md. -/
def Obligations.ShadedPolylineForcedEnd : Prop :=
  ∀ (s : State) (w0 : Word) (ws : List Word),
    s.wmode = .framing → s.cmdbuf = [] → s.frameskip = false → s.cfg.entry (cmdId w0) = some ⟨.varG, .plineG⟩ →
    ws.length = 254 →
    (∀ k, 3 ≤ k → k < 254 → k % 2 = 1 → isTerm (ws.getD k 0) = false) →
    (∀ n < 254, portSteps (feedGP0 (w0 :: ws.take n)) s = .next { s with cmdbuf := w0 :: ws.take n }) ∧
    portSteps (feedGP0 (w0 :: ws)) s = .next (s.emitted (.line {
      id := cmdId w0, shaded := true, poly := true, semi := w0.getLsbD 25, n := 127
      v := (List.range 127).map fun k => vertexOf (ws.getD (2 * k) 0)
      c := (List.range 127).map fun k => colour24 ((w0 :: ws).getD (2 * k) 0), terminated := some false })).endDispatch

/-- The invariant holds after reset. -/
def Obligations.ResetSatisfiesInvariant : Prop := State.reset.Inv

/-- Every step keeps the invariant, from every state that meets it.
Rests on the spec's own decisions D3, D10, D11 of 92_eei_decisions.md. -/
def Obligations.StepKeepsInvariant : Prop :=
  ∀ (s t : State), s.Inv → step s = .next t → t.Inv

/-- From every state that meets the invariant every step is defined: the assertion of R243 never fails and nothing faults (R254,
R320, R324). -/
def Obligations.StepAlwaysDefined : Prop :=
  ∀ (s : State), s.Inv → ∃ t, step s = .next t

/-- No command of either channel faults or is refused, in any state (R320). -/
def Obligations.EveryCommandCompletes : Prop :=
  ∀ (i : Instr) (s : State), ∃ t, exec i s = .next t

/-! ### Polygons -/

/-- `POLY_F3` and `POLY_F4` emit the flat polygon of their words and change nothing else (R151, R153, R160).
The words are those of any table that gives the id this handler; that what a longer entry takes besides is ignored is the model's choice
(log 3).
Rests on the spec's own decisions D3, D4 of 92_eei_decisions.md. -/
def Obligations.FlatPolygonsEmit : Prop :=
  ∀ (s : State) (extra : List Word) (w0 w1 w2 w3 w4 : Word),
    (
      let i := Instr.polyF3 (idHigh w0) (idLow w0) (colour24 w0) (vtxOf w1) (vtxOf w2) (vtxOf w3)
      (s.cfg.entry (cmdId w0) = some ⟨.fixed (4 + extra.length), .polyF3⟩ →
        decodeGP0 s.cfg (w0 :: w1 :: w2 :: w3 :: extra) = .ok (i, [])) ∧
      exec i s = .next (s.emitted (.poly {
        id := cmdId w0, nverts := 3, shaded := false, textured := false, semi := w0.getLsbD 25, raw := w0.getLsbD 24
        v := [vertexOf w1, vertexOf w2, vertexOf w3], c := [colour24 w0, colour24 w0, colour24 w0], texture := none }))) ∧
    (
      let i := Instr.polyF4 (idHigh w0) (idLow w0) (colour24 w0) (vtxOf w1) (vtxOf w2) (vtxOf w3) (vtxOf w4)
      (s.cfg.entry (cmdId w0) = some ⟨.fixed (5 + extra.length), .polyF4⟩ →
        decodeGP0 s.cfg (w0 :: w1 :: w2 :: w3 :: w4 :: extra) = .ok (i, [])) ∧
      exec i s = .next (s.emitted (.poly {
        id := cmdId w0, nverts := 4, shaded := false, textured := false, semi := w0.getLsbD 25, raw := w0.getLsbD 24
        v := [vertexOf w1, vertexOf w2, vertexOf w3, vertexOf w4]
        c := [colour24 w0, colour24 w0, colour24 w0, colour24 w0], texture := none })))

/-- `POLY_FT3` and `POLY_FT4` emit the flat textured polygon of their words, after the write-back of R159 when it is on, and change
nothing else (R152, R154, R160).
The words are those of any table that gives the id this handler; that what a longer entry takes besides is ignored is the model's choice
(log 3).
Rests on the spec's own decisions D3, D4, D7, D27 of 92_eei_decisions.md. -/
def Obligations.FlatTexturedPolygonsEmit : Prop :=
  ∀ (s : State) (extra : List Word) (w0 w1 w2 w3 w4 w5 w6 w7 w8 : Word),
    (
      let i := Instr.polyFT3 (idHigh w0) (idLow w0) (colour24 w0) (vtxOf w1) (uvOf w2) (highHalf w2)
        (vtxOf w3) (uvOf w4) (highHalf w4) (vtxOf w5) (uvOf w6)
      (s.cfg.entry (cmdId w0) = some ⟨.fixed (7 + extra.length), .polyFT3⟩ →
        decodeGP0 s.cfg (w0 :: w1 :: w2 :: w3 :: w4 :: w5 :: w6 :: extra) = .ok (i, [])) ∧
      exec i s = .next ((s.texpageWriteback (highHalf w4)).emitted (.poly {
        id := cmdId w0, nverts := 3, shaded := false, textured := true, semi := w0.getLsbD 25, raw := w0.getLsbD 24
        v := [vertexOf w1, vertexOf w3, vertexOf w5], c := [colour24 w0, colour24 w0, colour24 w0]
        texture := some ⟨[uvOf w2, uvOf w4, uvOf w6], highHalf w2, highHalf w4⟩ }))) ∧
    (
      let i := Instr.polyFT4 (idHigh w0) (idLow w0) (colour24 w0) (vtxOf w1) (uvOf w2) (highHalf w2)
        (vtxOf w3) (uvOf w4) (highHalf w4) (vtxOf w5) (uvOf w6) (vtxOf w7) (uvOf w8)
      (s.cfg.entry (cmdId w0) = some ⟨.fixed (9 + extra.length), .polyFT4⟩ →
        decodeGP0 s.cfg (w0 :: w1 :: w2 :: w3 :: w4 :: w5 :: w6 :: w7 :: w8 :: extra) = .ok (i, [])) ∧
      exec i s = .next ((s.texpageWriteback (highHalf w4)).emitted (.poly {
        id := cmdId w0, nverts := 4, shaded := false, textured := true, semi := w0.getLsbD 25, raw := w0.getLsbD 24
        v := [vertexOf w1, vertexOf w3, vertexOf w5, vertexOf w7]
        c := [colour24 w0, colour24 w0, colour24 w0, colour24 w0]
        texture := some ⟨[uvOf w2, uvOf w4, uvOf w6, uvOf w8], highHalf w2, highHalf w4⟩ })))

/-- `POLY_G3` and `POLY_G4` emit the shaded polygon of their words and change nothing else (R155, R157, R160).
The words are those of any table that gives the id this handler; that what a longer entry takes besides is ignored is the model's choice
(log 3).
Rests on the spec's own decisions D3, D4 of 92_eei_decisions.md. -/
def Obligations.ShadedPolygonsEmit : Prop :=
  ∀ (s : State) (extra : List Word) (w0 w1 w2 w3 w4 w5 w6 w7 : Word),
    (
      let i := Instr.polyG3 (idHigh w0) (idLow w0) (colour24 w0) (vtxOf w1) (colour24 w2) (vtxOf w3)
        (colour24 w4) (vtxOf w5)
      (s.cfg.entry (cmdId w0) = some ⟨.fixed (6 + extra.length), .polyG3⟩ →
        decodeGP0 s.cfg (w0 :: w1 :: w2 :: w3 :: w4 :: w5 :: extra) = .ok (i, [])) ∧
      exec i s = .next (s.emitted (.poly {
        id := cmdId w0, nverts := 3, shaded := true, textured := false, semi := w0.getLsbD 25, raw := w0.getLsbD 24
        v := [vertexOf w1, vertexOf w3, vertexOf w5], c := [colour24 w0, colour24 w2, colour24 w4], texture := none }))) ∧
    (
      let i := Instr.polyG4 (idHigh w0) (idLow w0) (colour24 w0) (vtxOf w1) (colour24 w2) (vtxOf w3)
        (colour24 w4) (vtxOf w5) (colour24 w6) (vtxOf w7)
      (s.cfg.entry (cmdId w0) = some ⟨.fixed (8 + extra.length), .polyG4⟩ →
        decodeGP0 s.cfg (w0 :: w1 :: w2 :: w3 :: w4 :: w5 :: w6 :: w7 :: extra) = .ok (i, [])) ∧
      exec i s = .next (s.emitted (.poly {
        id := cmdId w0, nverts := 4, shaded := true, textured := false, semi := w0.getLsbD 25, raw := w0.getLsbD 24
        v := [vertexOf w1, vertexOf w3, vertexOf w5, vertexOf w7]
        c := [colour24 w0, colour24 w2, colour24 w4, colour24 w6], texture := none })))

/-- `POLY_GT3` and `POLY_GT4` emit the shaded textured polygon of their words, after the write-back of R159 when it is on, and change
nothing else (R156, R158, R160).
The words are those of any table that gives the id this handler; that what a longer entry takes besides is ignored is the model's choice
(log 3).
Rests on the spec's own decisions D3, D4, D7, D27 of 92_eei_decisions.md. -/
def Obligations.ShadedTexturedPolygonsEmit : Prop :=
  ∀ (s : State) (extra : List Word) (w0 w1 w2 w3 w4 w5 w6 w7 w8 w9 w10 w11 : Word),
    (
      let i := Instr.polyGT3 (idHigh w0) (idLow w0) (colour24 w0) (vtxOf w1) (uvOf w2) (highHalf w2)
        (colour24 w3) (vtxOf w4) (uvOf w5) (highHalf w5) (colour24 w6) (vtxOf w7) (uvOf w8)
      (s.cfg.entry (cmdId w0) = some ⟨.fixed (9 + extra.length), .polyGT3⟩ →
        decodeGP0 s.cfg (w0 :: w1 :: w2 :: w3 :: w4 :: w5 :: w6 :: w7 :: w8 :: extra) = .ok (i, [])) ∧
      exec i s = .next ((s.texpageWriteback (highHalf w5)).emitted (.poly {
        id := cmdId w0, nverts := 3, shaded := true, textured := true, semi := w0.getLsbD 25, raw := w0.getLsbD 24
        v := [vertexOf w1, vertexOf w4, vertexOf w7], c := [colour24 w0, colour24 w3, colour24 w6]
        texture := some ⟨[uvOf w2, uvOf w5, uvOf w8], highHalf w2, highHalf w5⟩ }))) ∧
    (
      let i := Instr.polyGT4 (idHigh w0) (idLow w0) (colour24 w0) (vtxOf w1) (uvOf w2) (highHalf w2)
        (colour24 w3) (vtxOf w4) (uvOf w5) (highHalf w5) (colour24 w6) (vtxOf w7) (uvOf w8) (colour24 w9) (vtxOf w10) (uvOf w11)
      (s.cfg.entry (cmdId w0) = some ⟨.fixed (12 + extra.length), .polyGT4⟩ →
        decodeGP0 s.cfg (w0 :: w1 :: w2 :: w3 :: w4 :: w5 :: w6 :: w7 :: w8 :: w9 :: w10 :: w11 :: extra) = .ok (i, [])) ∧
      exec i s = .next ((s.texpageWriteback (highHalf w5)).emitted (.poly {
        id := cmdId w0, nverts := 4, shaded := true, textured := true, semi := w0.getLsbD 25, raw := w0.getLsbD 24
        v := [vertexOf w1, vertexOf w4, vertexOf w7, vertexOf w10]
        c := [colour24 w0, colour24 w3, colour24 w6, colour24 w9]
        texture := some ⟨[uvOf w2, uvOf w5, uvOf w8, uvOf w11], highHalf w2, highHalf w5⟩ })))

/-- The write-back of a textured polygon: with the parameter on, `CSR[8:0] <- tpage[8:0]` and `CSR.TXD <- tpage[11] AND
TEXDIS_ALLOW`, nothing else; with it off, nothing (R159).
Rests on the spec's own decisions D1, D27 of 92_eei_decisions.md. -/
def Obligations.TexpageWritebackFollowsParameter : Prop :=
  ∀ (s : State) (p : BitVec 16),
    (s.cfg.polyTexpageWriteback = false → s.texpageWriteback p = s) ∧
    (s.cfg.polyTexpageWriteback = true →
      s.texpageWriteback p = { s with csr := (s.texpageWriteback p).csr } ∧
      ∀ b < 32, (s.texpageWriteback p).csr.getLsbD b =
        if b ≤ 8 then p.getLsbD b else if b = 15 then p.getLsbD 11 && s.texdisAllow else s.csr.getLsbD b)

/-! ### Lines -/

/-- `LINE_F2` and `LINE_G2` emit the line of their words and change nothing else; their words are never tested for termination
(R171, R172).
The words are those of any table that gives the id this handler; that what a longer entry takes besides is ignored is the model's choice
(log 3). The decode clauses are for a fixed length; these handlers under a variable one, which R8 allows, are in
`StepRunsDecodedCommand`.
Rests on the spec's own decisions D3, D4 of 92_eei_decisions.md. -/
def Obligations.FixedLinesEmit : Prop :=
  ∀ (s : State) (extra : List Word) (w0 w1 w2 w3 : Word),
    (
      let i := Instr.lineF2 (idHigh w0) (w0.getLsbD 25) (w0.getLsbD 24) (colour24 w0) (vtxOf w1) (vtxOf w2)
      (s.cfg.entry (cmdId w0) = some ⟨.fixed (3 + extra.length), .lineF2⟩ →
        decodeGP0 s.cfg (w0 :: w1 :: w2 :: extra) = .ok (i, [])) ∧
      exec i s = .next (s.emitted (.line {
        id := cmdId w0, shaded := false, poly := false, semi := w0.getLsbD 25, n := 2
        v := [vertexOf w1, vertexOf w2], c := [colour24 w0, colour24 w0], terminated := none }))) ∧
    (
      let i := Instr.lineG2 (idHigh w0) (w0.getLsbD 25) (w0.getLsbD 24) (colour24 w0) (vtxOf w1) (colour24 w2) (vtxOf w3)
      (s.cfg.entry (cmdId w0) = some ⟨.fixed (4 + extra.length), .lineG2⟩ →
        decodeGP0 s.cfg (w0 :: w1 :: w2 :: w3 :: extra) = .ok (i, [])) ∧
      exec i s = .next (s.emitted (.line {
        id := cmdId w0, shaded := true, poly := false, semi := w0.getLsbD 25, n := 2
        v := [vertexOf w1, vertexOf w3], c := [colour24 w0, colour24 w2], terminated := none })))

/-- `PLINE_F` on a complete buffer of `n` words emits the vertices of words 1 to `nv`, `nv = n - 2` if terminated, else `n - 1`, all
in the colour of word 0, and changes nothing else (R173).
Rests on the spec's own decisions D3, D4, D8 of 92_eei_decisions.md. -/
def Obligations.MonoPolylineEmits : Prop :=
  ∀ (s : State) (terminated : Bool) (w0 : Word) (ws : List Word),
    let nv := if terminated then (w0 :: ws).length - 2 else (w0 :: ws).length - 1
    let i := Instr.plineF (idHigh w0) (w0.getLsbD 25) (w0.getLsbD 24) (colour24 w0) ((ws.take nv).map vtxOf) terminated
    assemble .plineF terminated (w0 :: ws) = i ∧
    exec i s = .next (s.emitted (.line {
      id := cmdId w0, shaded := false, poly := true, semi := w0.getLsbD 25, n := nv
      v := (List.range nv).map fun k => vertexOf ((w0 :: ws).getD (1 + k) 0)
      c := List.replicate nv (colour24 w0), terminated := some terminated }))

/-- `PLINE_G` on a complete buffer of `n` words emits `(n - 1) div 2` vertices, colour `k` from word `2k`, vertex `k` from word
`2k + 1`, and changes nothing else (R174).
Rests on the spec's own decisions D3, D4, D8 of 92_eei_decisions.md. -/
def Obligations.ShadedPolylineEmits : Prop :=
  ∀ (s : State) (terminated : Bool) (w0 : Word) (ws : List Word),
    let nv := ((w0 :: ws).length - 1) / 2
    let i := Instr.plineG (idHigh w0) (w0.getLsbD 25) (w0.getLsbD 24)
      ((List.range nv).map fun k => (colour24 ((w0 :: ws).getD (2 * k) 0), vtxOf ((w0 :: ws).getD (2 * k + 1) 0))) terminated
    assemble .plineG terminated (w0 :: ws) = i ∧
    exec i s = .next (s.emitted (.line {
      id := cmdId w0, shaded := true, poly := true, semi := w0.getLsbD 25, n := nv
      v := (List.range nv).map fun k => vertexOf ((w0 :: ws).getD (2 * k + 1) 0)
      c := (List.range nv).map fun k => colour24 ((w0 :: ws).getD (2 * k) 0), terminated := some terminated }))

/-! ### Tiles and sprites -/

/-- `TILE` emits the rectangle of its words with the raw sizes of word 2, `SPRT` with those of word 3, a zero staying a zero; nothing
else changes (R181, R182).
The words are those of any table that gives the id this handler. Under the length of R102 the size word is the last one (R189); that under
a longer entry it stays word 2 or word 3, and the words after it are ignored, is the model's choice (log 3).
Rests on the spec's own decisions D3, D4, D5, D7 of 92_eei_decisions.md. -/
def Obligations.CustomSizeRectanglesEmit : Prop :=
  ∀ (s : State) (extra : List Word) (w0 w1 w2 w3 : Word),
    (
      let i := Instr.tile (idHigh w0) (idLow w0) (colour24 w0) (vtxOf w1) (sizeFieldsOf w2)
      (s.cfg.entry (cmdId w0) = some ⟨.fixed (3 + extra.length), .tile⟩ →
        decodeGP0 s.cfg (w0 :: w1 :: w2 :: extra) = .ok (i, [])) ∧
      exec i s = .next (s.emitted (.rect {
        id := cmdId w0, textured := false, semi := w0.getLsbD 25, raw := w0.getLsbD 24, sizeclass := 0, c := colour24 w0
        pos := vertexOf w1, w := w2.toNat % 1024, h := w2.toNat / 65536 % 512, uv := none, clut := none }))) ∧
    (
      let i := Instr.sprt (idHigh w0) (idLow w0) (colour24 w0) (vtxOf w1) (uvOf w2) (highHalf w2) (sizeFieldsOf w3)
      (s.cfg.entry (cmdId w0) = some ⟨.fixed (4 + extra.length), .sprt⟩ →
        decodeGP0 s.cfg (w0 :: w1 :: w2 :: w3 :: extra) = .ok (i, [])) ∧
      exec i s = .next (s.emitted (.rect {
        id := cmdId w0, textured := true, semi := w0.getLsbD 25, raw := w0.getLsbD 24, sizeclass := 0, c := colour24 w0
        pos := vertexOf w1, w := w3.toNat % 1024, h := w3.toNat / 65536 % 512, uv := some (uvOf w2)
        clut := some (highHalf w2) })))

/-- The fixed-size tiles and sprites emit rectangles of 1x1, 8x8 and 16x16 with size classes 1, 2 and 3, and change nothing else
(R183 to R188).
The words are those of any table that gives the id this handler; that what a longer entry takes besides is ignored is the model's choice
(log 3).
Rests on the spec's own decisions D3, D4, D7 of 92_eei_decisions.md. -/
def Obligations.FixedSizeRectanglesEmit : Prop :=
  ∀ (s : State) (extra : List Word) (w0 w1 w2 : Word),
    let id := cmdId w0
    let ih := idHigh w0
    let il := idLow w0
    let tile (k : BitVec 2) (n : Nat) : Record := .rect {
      id := id, textured := false, semi := w0.getLsbD 25, raw := w0.getLsbD 24, sizeclass := k, c := colour24 w0
      pos := vertexOf w1, w := n, h := n, uv := none, clut := none }
    let sprite (k : BitVec 2) (n : Nat) : Record := .rect {
      id := id, textured := true, semi := w0.getLsbD 25, raw := w0.getLsbD 24, sizeclass := k, c := colour24 w0
      pos := vertexOf w1, w := n, h := n, uv := some (uvOf w2), clut := some (highHalf w2) }
    let tiled (h : Handler) (i : Instr) (r : Record) : Prop :=
      (s.cfg.entry id = some ⟨.fixed (2 + extra.length), h⟩ → decodeGP0 s.cfg (w0 :: w1 :: extra) = .ok (i, [])) ∧
      exec i s = .next (s.emitted r)
    let sprited (h : Handler) (i : Instr) (r : Record) : Prop :=
      (s.cfg.entry id = some ⟨.fixed (3 + extra.length), h⟩ → decodeGP0 s.cfg (w0 :: w1 :: w2 :: extra) = .ok (i, [])) ∧
      exec i s = .next (s.emitted r)
    tiled .tile1 (.tile1 ih il (colour24 w0) (vtxOf w1)) (tile 1 1) ∧
    tiled .tile8 (.tile8 ih il (colour24 w0) (vtxOf w1)) (tile 2 8) ∧
    tiled .tile16 (.tile16 ih il (colour24 w0) (vtxOf w1)) (tile 3 16) ∧
    sprited .sprt1 (.sprt1 ih il (colour24 w0) (vtxOf w1) (uvOf w2) (highHalf w2)) (sprite 1 1) ∧
    sprited .sprt8 (.sprt8 ih il (colour24 w0) (vtxOf w1) (uvOf w2) (highHalf w2)) (sprite 2 8) ∧
    sprited .sprt16 (.sprt16 ih il (colour24 w0) (vtxOf w1) (uvOf w2) (highHalf w2)) (sprite 3 16)

/-! ### VRAM and image transfer -/

/-- A texel store changes one texel, its coordinates taken modulo (1024, 512), and no other (R12, R71); a masked store leaves a
protected texel and forces bit 15 under mask-apply (R80).
Rests on the spec's own decisions D14, D32 of 92_eei_decisions.md. -/
def Obligations.TexelStoresFollowPolicy : Prop :=
  ∀ (csr : Word) (m : Vram) (x y x' y' : Nat) (v : BitVec 16), m.wf →
    ((m.write x y v).read x' y' = if x % 1024 = x' % 1024 ∧ y % 512 = y' % 512 then v else m.read x' y') ∧
    ((Vram.writeMasked csr m x y v).read x' y' =
      if x % 1024 = x' % 1024 ∧ y % 512 = y' % 512 then maskedResult csr (m.read x y) v else m.read x' y')

/-- `FILL` overwrites its rectangle, start column and width in steps of 16, zero sizes the maximum, with the 15-bit colour, whatever
the mask policy; every other byte of VRAM and all other state but the record is unchanged (R81, R82, R201).
That what an entry longer than the handler reads takes besides is ignored is the model's choice (log 3).
Rests on the spec's own decisions D3, D5, D6, D12, D32 of 92_eei_decisions.md. -/
def Obligations.FillOverwritesRectangle : Prop :=
  ∀ (s : State) (extra : List Word) (w0 w1 w2 : Word), s.vram.wf →
    let dst := posOf w1
    let size := sizeFieldsOf w2
    let i := Instr.fill (colour24 w0) dst size
    let x0 := if s.cfg.fillXAlign16 then dst.x.toNat / 16 * 16 else dst.x.toNat
    let ww := ((if size.w = 0 then 1024 else size.w.toNat) + 15) / 16 * 16
    let hh := if size.h = 0 then 512 else size.h.toNat
    (s.cfg.entry (cmdId w0) = some ⟨.fixed (3 + extra.length), .fill⟩ →
      decodeGP0 s.cfg (w0 :: w1 :: w2 :: extra) = .ok (i, [])) ∧
    ∃ t, exec i s = .next t ∧
      t = { s with
        vram := t.vram
        out := s.out ++ [(.image ⟨0x02, .fill, none, some dst, size, some (colour24 w0)⟩, s.snapshot)] } ∧
      (∀ x y, x < 1024 → y < 512 → inRect x0 dst.y.toNat ww hh x y → t.vram.read x y = to15 (colour24 w0)) ∧
      ∀ a, outsideRect x0 dst.y.toNat ww hh a → t.vram.readByte a = s.vram.readByte a

/-- `MOVE` changes no byte outside its destination rectangle and no other state but the record; when no source texel is a destination
texel, each destination texel is the masked store of its source texel (R83, R202).
That what an entry longer than the handler reads takes besides is ignored is the model's choice (log 3).
Rests on the spec's own decisions D3, D5, D13, D14 of 92_eei_decisions.md. -/
def Obligations.MoveCopiesRectangle : Prop :=
  ∀ (s : State) (extra : List Word) (w0 w1 w2 w3 : Word), s.vram.wf →
    let src := posOf w1
    let dst := posOf w2
    let size := sizeFieldsOf w3
    let i := Instr.move (cmdId w0) src dst size
    let ww := if size.w = 0 then 1024 else size.w.toNat
    let hh := if size.h = 0 then 512 else size.h.toNat
    (s.cfg.entry (cmdId w0) = some ⟨.fixed (4 + extra.length), .move⟩ →
      decodeGP0 s.cfg (w0 :: w1 :: w2 :: w3 :: extra) = .ok (i, [])) ∧
    ∃ t, exec i s = .next t ∧
      t = { s with
        vram := t.vram, out := s.out ++ [(.image ⟨cmdId w0, .move, some src, some dst, size, none⟩, s.snapshot)] } ∧
      (∀ a, outsideRect dst.x.toNat dst.y.toNat ww hh a → t.vram.readByte a = s.vram.readByte a) ∧
      ((∀ x y, ¬(inRect src.x.toNat src.y.toNat ww hh x y ∧ inRect dst.x.toNat dst.y.toNat ww hh x y)) →
        ∀ a < ww, ∀ b < hh, t.vram.read (dst.x.toNat + a) (dst.y.toNat + b) =
          maskedResult s.csr (s.vram.read (dst.x.toNat + a) (dst.y.toNat + b))
            (s.vram.read (src.x.toNat + a) (src.y.toNat + b)))

/-- The texel order of `MOVE`: copying one row to the next column, with no mask policy, spreads its first texel over all of it, since
a texel already overwritten is read with its new value (R83).
Rests on the spec's own decision D13 of 92_eei_decisions.md. -/
def Obligations.OverlappingMoveReadsNewTexels : Prop :=
  ∀ (s : State) (id : BitVec 8) (x : BitVec 10) (y : BitVec 9) (w : BitVec 10),
    s.vram.wf → Csr.md s.csr = false → Csr.me s.csr = false →
    ∃ t, exec (.move id ⟨x, y⟩ ⟨x + 1, y⟩ ⟨w, 1⟩) s = .next t ∧
      ∀ a < (if w = 0 then 1024 else w.toNat), t.vram.read (x.toNat + 1 + a) y.toNat = s.vram.read x.toNat y.toNat

/-- `LOAD` and `STORE` set their cursor to the start of the rectangle with the declared word count and open their mode; `STORE` sets
`VRDY`; nothing else changes but the record, and no VRAM at dispatch (R87, R204, R206).
That what an entry longer than the handler reads takes besides is ignored is the model's choice (log 3).
Rests on the spec's own decisions D3, D5, D11, D31 of 92_eei_decisions.md. -/
def Obligations.TransferHeadersOpenTransfers : Prop :=
  ∀ (s : State) (extra : List Word) (w0 w1 w2 : Word),
    let pos := posOf w1
    let size := sizeFieldsOf w2
    let ww := if size.w = 0 then 1024 else size.w.toNat
    let hh := if size.h = 0 then 512 else size.h.toNat
    let cursor : Cursor := ⟨pos.x, pos.y, ww, hh, 0, 0, (ww * hh + 1) / 2⟩
    ((s.cfg.entry (cmdId w0) = some ⟨.fixed (3 + extra.length), .load⟩ →
        decodeGP0 s.cfg (w0 :: w1 :: w2 :: extra) = .ok (.load (cmdId w0) pos size, [])) ∧
      exec (.load (cmdId w0) pos size) s = .next { s with
        wmode := .passthrough, wcur := cursor
        out := s.out ++ [(.image ⟨cmdId w0, .load, none, some pos, size, none⟩, s.snapshot)] }) ∧
    ((s.cfg.entry (cmdId w0) = some ⟨.fixed (3 + extra.length), .store⟩ →
        decodeGP0 s.cfg (w0 :: w1 :: w2 :: extra) = .ok (.store (cmdId w0) pos size, [])) ∧
      exec (.store (cmdId w0) pos size) s = .next { s with
        rmode := .vramRead, rcur := cursor, csr := s.csr ||| 0x08000000
        out := s.out ++ [(.image ⟨cmdId w0, .store, some pos, none, size, none⟩, s.snapshot)] })

/-- The payload of a `LOAD`: exactly the declared number of words is taken, whatever their bits; texel `k` of the stream goes, by the
masked store, to column offset `k mod w` and row offset `k div w`; no other byte and no other state changes; after the last word the
next is framed again, and not before (R84, R87, R205).
Rests on the spec's own decisions D11, D14 of 92_eei_decisions.md. -/
def Obligations.LoadPayloadFillsRectangle : Prop :=
  ∀ (s : State) (dst : Pos) (size : Size) (payload : List Word),
    s.vram.wf → s.wmode = .passthrough → s.wcur = Cursor.start dst size → payload.length = xferWords size →
    (∀ n < xferWords size, ∃ t, portSteps (feedGP0 (payload.take n)) s = .next t ∧ t.wmode = .passthrough) ∧
    ∃ t, portSteps (feedGP0 payload) s = .next t ∧
      t = { s with wmode := .framing, wcur := t.wcur, vram := t.vram } ∧
      (∀ k < effW size.w * effH size.h,
        t.vram.read (dst.x.toNat + k % effW size.w) (dst.y.toNat + k / effW size.w) =
          maskedResult s.csr (s.vram.read (dst.x.toNat + k % effW size.w) (dst.y.toNat + k / effW size.w))
            (streamTexel payload k)) ∧
      ∀ a, outsideRect dst.x.toNat dst.y.toNat (effW size.w) (effH size.h) a → t.vram.readByte a = s.vram.readByte a

/-- The words of a `STORE`: exactly the declared number of `ReadData` operations returns the texels of the rectangle in raster order,
two a word, low half first, the unused half of an odd count zero, whatever the mask policy; the last one closes the transfer and
clears `VRDY` (R85, R87, R207).
Rests on the spec's own decisions D11, D19, D31 of 92_eei_decisions.md. -/
def Obligations.StoreReadsRectangle : Prop :=
  ∀ (s : State) (src : Pos) (size : Size), s.rmode = .vramRead → s.rcur = Cursor.start src size →
    let texel (k : Nat) : BitVec 16 :=
      if k < effW size.w * effH size.h then
        s.vram.read (src.x.toNat + k % effW size.w) (src.y.toNat + k / effW size.w)
      else 0
    ∃ t, portSteps (List.replicate (xferWords size) .readData) s = .next t ∧
      t = { s with
        rmode := .normal, rcur := t.rcur, csr := s.csr &&& ~~~0x08000000
        replies := s.replies ++ (List.range (xferWords size)).map fun n => .data (texel (2 * n + 1) ++ texel (2 * n)) }

/-! ### Attribute-set commands -/

/-- `TEXPAGE` writes `CSR[10:0]`, `TXD` under `TEXDIS_ALLOW`, and `TEXFLIP`; every other bit and all other state is unchanged
(R221).
That what an entry longer than the handler reads takes besides is ignored is the model's choice (log 3).
Rests on the spec's own decisions D1, D3, D15 of 92_eei_decisions.md. -/
def Obligations.TexpageWritesModeFields : Prop :=
  ∀ (s : State) (extra : List Word) (w : Word),
    let i := Instr.texpage (w.extractLsb' 0 11) (w.getLsbD 11) (w.extractLsb' 12 2)
    (s.cfg.entry (cmdId w) = some ⟨.fixed (1 + extra.length), .texpage⟩ → decodeGP0 s.cfg (w :: extra) = .ok (i, [])) ∧
    ∃ t, exec i s = .next t ∧ t = { s with csr := t.csr, texflip := w.extractLsb' 12 2 } ∧
      ∀ b < 32, t.csr.getLsbD b =
        if b ≤ 10 then w.getLsbD b else if b = 15 then w.getLsbD 11 && s.texdisAllow else s.csr.getLsbD b

/-- `TEXWIN`, `DRAWAREA_TL`, `DRAWAREA_BR` and `DRAWOFS` store the low 20, 19, 19 and 22 bits of their word in their register and change
nothing else (R222 to R225).
That what an entry longer than the handler reads takes besides is ignored is the model's choice (log 3).
Rests on the spec's own decisions D3, D15 of 92_eei_decisions.md. -/
def Obligations.ContextRegistersStoreOperand : Prop :=
  ∀ (s : State) (extra : List Word) (w : Word),
    (s.cfg.entry (cmdId w) = some ⟨.fixed (1 + extra.length), .texwin⟩ →
      decodeGP0 s.cfg (w :: extra) = .ok (.texwin (w.extractLsb' 0 20), [])) ∧
    exec (.texwin (w.extractLsb' 0 20)) s = .next { s with texwin := w.extractLsb' 0 20 } ∧
    (s.cfg.entry (cmdId w) = some ⟨.fixed (1 + extra.length), .drawareaTL⟩ →
      decodeGP0 s.cfg (w :: extra) = .ok (.drawareaTL (w.extractLsb' 0 19), [])) ∧
    exec (.drawareaTL (w.extractLsb' 0 19)) s = .next { s with drawTl := w.extractLsb' 0 19 } ∧
    (s.cfg.entry (cmdId w) = some ⟨.fixed (1 + extra.length), .drawareaBR⟩ →
      decodeGP0 s.cfg (w :: extra) = .ok (.drawareaBR (w.extractLsb' 0 19), [])) ∧
    exec (.drawareaBR (w.extractLsb' 0 19)) s = .next { s with drawBr := w.extractLsb' 0 19 } ∧
    (s.cfg.entry (cmdId w) = some ⟨.fixed (1 + extra.length), .drawofs⟩ →
      decodeGP0 s.cfg (w :: extra) = .ok (.drawofs (w.extractLsb' 0 22), [])) ∧
    exec (.drawofs (w.extractLsb' 0 22)) s = .next { s with drawOfs := w.extractLsb' 0 22 }

/-- `MASKSET` writes `CSR` bits 11 and 12 from bits 0 and 1 of its word, `IRQ1` sets bit 24; every other bit and all other state is
unchanged (R226, R227).
That what an entry longer than the handler reads takes besides is ignored is the model's choice (log 3).
Rests on the spec's own decisions D1, D3, D15 of 92_eei_decisions.md. -/
def Obligations.MaskAndIrqCommandsWriteTheirBits : Prop :=
  ∀ (s : State) (extra : List Word) (w : Word),
    (s.cfg.entry (cmdId w) = some ⟨.fixed (1 + extra.length), .maskset⟩ →
      decodeGP0 s.cfg (w :: extra) = .ok (.maskset (w.getLsbD 0) (w.getLsbD 1), [])) ∧
    (∃ t, exec (.maskset (w.getLsbD 0) (w.getLsbD 1)) s = .next t ∧ t = { s with csr := t.csr } ∧
      ∀ b < 32, t.csr.getLsbD b =
        if b = 11 then w.getLsbD 0 else if b = 12 then w.getLsbD 1 else s.csr.getLsbD b) ∧
    (s.cfg.entry (cmdId w) = some ⟨.fixed (1 + extra.length), .irq1⟩ →
      decodeGP0 s.cfg (w :: extra) = .ok (.irq1, [])) ∧
    exec .irq1 s = .next { s with csr := s.csr ||| 0x01000000 }

/-! ### Control channel -/

/-- `C_RESET` restores the registers R272 lists, records its word, clears the assembler and both transfers when the parameter says
so, and leaves VRAM, `READBACK`, `BUSYCNT`, `FRAMESKIP` and `OUT` (R270, R272).
That a cursor whose transfer it closes keeps its value is the model's choice (log 7).
Rests on the spec's own decisions D1, D16, D20, D21, D24 of 92_eei_decisions.md. -/
def Obligations.ControlResetRestoresRegisters : Prop :=
  ∀ (s : State) (w : Word), canonical (cmdId w) = 0x00 →
    let t := { s.recorded w with
      csr := 0x14802000, texwin := 0, drawTl := 0, drawBr := 0, drawOfs := 0, texflip := 0, texdisAllow := false,
      dispOrigin := 0, hrange := 0xC00200, vrange := 0x40010 }
    decodeGP1 w = .cReset (w.extractLsb' 30 2) (colour24 w) ∧
    exec (.cReset (w.extractLsb' 30 2) (colour24 w)) s =
      .next (if s.cfg.resetClearsAssembler then { t with cmdbuf := [], wmode := .framing, rmode := .normal } else t)

/-- `C_CLEARFIFO` drops the partly buffered command and both transfers, clears `VRDY`, records its word, and changes nothing else: no
dispatch, no record (R208, R270, R273).
That the cursor of a closed transfer keeps its value is the model's choice (log 7).
Rests on the spec's own decisions D16, D21, D24 of 92_eei_decisions.md. -/
def Obligations.ClearFifoDropsPendingState : Prop :=
  ∀ (s : State) (w : Word), canonical (cmdId w) = 0x01 →
    decodeGP1 w = .cClearfifo (w.extractLsb' 30 2) (colour24 w) ∧
    exec (.cClearfifo (w.extractLsb' 30 2) (colour24 w)) s = .next { s.recorded w with
      cmdbuf := [], wmode := .framing, rmode := .normal, csr := s.csr &&& ~~~0x08000000 }

/-- `C_ACKIRQ` clears bit 24, `C_DISPEN` writes bit 23 from operand bit 0, `C_DMADIR` bits 30:29 from operand bits 1:0; each records
its word and changes nothing else (R270, R274, R275, R276).
Rests on the spec's own decisions D1, D16, D24 of 92_eei_decisions.md. -/
def Obligations.ControlFieldCommandsWriteTheirBits : Prop :=
  ∀ (s : State) (w : Word),
    (canonical (cmdId w) = 0x02 →
      decodeGP1 w = .cAckirq (w.extractLsb' 30 2) (colour24 w) ∧
      exec (.cAckirq (w.extractLsb' 30 2) (colour24 w)) s = .next { s.recorded w with csr := s.csr &&& ~~~0x01000000 }) ∧
    (canonical (cmdId w) = 0x03 →
      decodeGP1 w = .cDispen (w.extractLsb' 30 2) (colour24 w) ∧
      ∃ t, exec (.cDispen (w.extractLsb' 30 2) (colour24 w)) s = .next t ∧ t = { s.recorded w with csr := t.csr } ∧
        ∀ b < 32, t.csr.getLsbD b = if b = 23 then w.getLsbD 0 else s.csr.getLsbD b) ∧
    (canonical (cmdId w) = 0x04 →
      decodeGP1 w = .cDmadir (w.extractLsb' 30 2) (colour24 w) ∧
      ∃ t, exec (.cDmadir (w.extractLsb' 30 2) (colour24 w)) s = .next t ∧ t = { s.recorded w with csr := t.csr } ∧
        ∀ b < 32, t.csr.getLsbD b =
          if b = 29 then w.getLsbD 0 else if b = 30 then w.getLsbD 1 else s.csr.getLsbD b)

/-- `C_DISPORG`, `C_HRANGE`, `C_VRANGE` and `C_TEXDIS` store the low 19, 24, 20 and 1 bits of their word in their register, record the
word, and change nothing else (R270, R277, R278, R279, R281).
Rests on the spec's own decisions D15, D16, D24 of 92_eei_decisions.md. -/
def Obligations.DisplayRegistersStoreOperand : Prop :=
  ∀ (s : State) (w : Word),
    (canonical (cmdId w) = 0x05 →
      decodeGP1 w = .cDisporg (w.extractLsb' 30 2) (colour24 w) ∧
      exec (.cDisporg (w.extractLsb' 30 2) (colour24 w)) s =
        .next { s.recorded w with dispOrigin := w.extractLsb' 0 19 }) ∧
    (canonical (cmdId w) = 0x06 →
      decodeGP1 w = .cHrange (w.extractLsb' 30 2) (colour24 w) ∧
      exec (.cHrange (w.extractLsb' 30 2) (colour24 w)) s = .next { s.recorded w with hrange := w.extractLsb' 0 24 }) ∧
    (canonical (cmdId w) = 0x07 →
      decodeGP1 w = .cVrange (w.extractLsb' 30 2) (colour24 w) ∧
      exec (.cVrange (w.extractLsb' 30 2) (colour24 w)) s = .next { s.recorded w with vrange := w.extractLsb' 0 20 }) ∧
    (canonical (cmdId w) = 0x09 →
      decodeGP1 w = .cTexdis (w.extractLsb' 30 2) (colour24 w) ∧
      exec (.cTexdis (w.extractLsb' 30 2) (colour24 w)) s = .next { s.recorded w with texdisAllow := w.getLsbD 0 })

/-- `C_DISPMODE` writes the seven mode fields from operand bits 7:0, records its word (D24), and changes nothing else; after it the
display width and height are the table entries the operand selects, the one-bit field and the video standard as high key bits (D2)
(R23, R24, R270, R280).
Rests on the spec's own decisions D1, D2, D16, D24 of 92_eei_decisions.md. -/
def Obligations.DisplayModeWritesModeBits : Prop :=
  ∀ (s : State) (w : Word), canonical (cmdId w) = 0x08 →
    decodeGP1 w = .cDispmode (w.extractLsb' 30 2) (colour24 w) ∧
    ∃ t, exec (.cDispmode (w.extractLsb' 30 2) (colour24 w)) s = .next t ∧ t = { s.recorded w with csr := t.csr } ∧
      (∀ b < 32, t.csr.getLsbD b =
        if b = 17 then w.getLsbD 0 else if b = 18 then w.getLsbD 1 else if b = 19 then w.getLsbD 2
        else if b = 20 then w.getLsbD 3 else if b = 21 then w.getLsbD 4 else if b = 22 then w.getLsbD 5
        else if b = 16 then w.getLsbD 6 else if b = 14 then w.getLsbD 7 else s.csr.getLsbD b) ∧
      Csr.displayWidth s.cfg t.csr = s.cfg.dispWidthLut.toList.getD (4 * (w.getLsbD 6).toNat + w.toNat % 4) 0 ∧
      Csr.displayHeight s.cfg t.csr = s.cfg.dispHeightLut.toList.getD (2 * (w.getLsbD 3).toNat + (w.getLsbD 2).toNat) 0

/-- `C_GPUINFO`, under any of its ids, puts the register of its index in `READBACK`, leaves it for an unlisted index, records its word,
and changes nothing else (R270, R271, R283).
Rests on the spec's own decisions D16, D17, D18, D24 of 92_eei_decisions.md. -/
def Obligations.GpuInfoAnswersRegisters : Prop :=
  ∀ (s : State) (w : Word), 0x10 ≤ (cmdId w).toNat % 64 → (cmdId w).toNat % 64 ≤ 0x1F →
    let k := w.toNat % 16
    decodeGP1 w = .cGpuinfo (w.extractLsb' 30 2) (w.extractLsb' 24 4) (colour24 w) ∧
    exec (.cGpuinfo (w.extractLsb' 30 2) (w.extractLsb' 24 4) (colour24 w)) s = .next { s.recorded w with
      readback :=
        if k = 2 then BitVec.ofNat 32 s.texwin.toNat else if k = 3 then BitVec.ofNat 32 s.drawTl.toNat
        else if k = 4 then BitVec.ofNat 32 s.drawBr.toNat else if k = 5 then BitVec.ofNat 32 s.drawOfs.toNat
        else if k = 7 then s.cfg.gpuVersionWord else s.readback }

/-- The unknown ids of both channels: a rendering one changes nothing, a control one only its history entry (R110, R282).
Rests on the spec's own decisions D3, D16, D24 of 92_eei_decisions.md. -/
def Obligations.UnknownCommandsAreSilent : Prop :=
  (∀ (i : Instr) (s : State), i.isUnknown = true → exec i s = .next s) ∧
  ∀ (i : Instr) (s : State) (w : Word), i.isUnknownControl = true → encode s.cfg i = [w] → exec i s = .next (s.recorded w)

/-! ### Ports -/

/-- `ReadStatus` returns `CSR`, with bit 26 reported 0 and the counter taken down while `BUSYCNT` is above 0, and changes nothing else;
with `BUSYCNT = n` the next `n` status reads report busy and the one after them reports `CSR` again (R303).
Rests on the spec's own decisions D1, D10 of 92_eei_decisions.md; the log of replies is the model's choice, log 11. -/
def Obligations.StatusReadsOverlayIdle : Prop :=
  ∀ (s : State),
    (∃ v, portStep .readStatus s = .next { s with busycnt := s.busycnt - 1, replies := s.replies ++ [.status v] } ∧
      ∀ b < 32, v.getLsbD b = if 0 < s.busycnt ∧ b = 26 then false else s.csr.getLsbD b) ∧
    portSteps (List.replicate (s.busycnt + 1) .readStatus) s = .next { s with
      busycnt := 0
      replies := s.replies ++ List.replicate s.busycnt (.status (s.csr &&& ~~~0x04000000)) ++ [.status s.csr] }

/-- The plain ports: `ReadData` with no transfer open returns `READBACK` and changes nothing, `SetFrameSkip` and `WriteStatusRaw` write
their register only, and what is written raw is what an idle status read returns (R21, R304, R305, R306).
Rests on the spec's own decisions D19, D34 of 92_eei_decisions.md; the log of replies is the model's choice, log 11. -/
def Obligations.PlainPortsReadAndWrite : Prop :=
  ∀ (s : State),
    (s.rmode = .normal → portStep .readData s = .next { s with replies := s.replies ++ [.data s.readback] }) ∧
    (∀ b, portStep (.setFrameSkip b) s = .next { s with frameskip := b }) ∧
    (∀ v, portStep (.writeStatusRaw v) s = .next { s with csr := v }) ∧
    ∀ v, s.busycnt = 0 → portSteps [.writeStatusRaw v, .readStatus] s =
      .next { s with csr := v, replies := s.replies ++ [.status v] }

/-- Freezing changes nothing and returns 1,049,608 bytes laid out as R308 says, little-endian: the version at offset 0, `CSR` at 4,
`CTRLHIST[i]` at 8 + 4i, the byte image of VRAM at 1032, where the texel (x, y) has its low byte at 2(1024y + x) of the image and its high
byte after it (R72). Thawing that record, in any state of a block with the same version, is accepted, restores status, history and every
byte of VRAM, empties the assembler, leaves `FRAMESKIP` and `OUT`, and a freeze then returns the same record byte for byte (R307, R308,
R309).
Rests on the spec's own decisions D22, D23, D32 of 92_eei_decisions.md; the log of replies is the model's choice, log 11. -/
def Obligations.FreezeThawRoundTrip : Prop :=
  (∀ (s : State),
    portStep .freeze s = .next { s with replies := s.replies ++ [.frozen s.blob] } ∧ s.blob.length = 1049608 ∧
    (∀ k < 4, s.blob[k]? = some (s.cfg.freezeVersion.extractLsb' (8 * k) 8)) ∧
    (∀ k < 4, s.blob[4 + k]? = some (s.csr.extractLsb' (8 * k) 8)) ∧
    (∀ (i : Fin 256), ∀ k < 4, s.blob[8 + 4 * i.val + k]? = some ((s.ctrlhist[i]).extractLsb' (8 * k) 8)) ∧
    (∀ a < 1048576, s.blob[1032 + a]? = some (s.vram.readByte a)) ∧
    ∀ x < 1024, ∀ y < 512,
      s.blob[1032 + 2 * (1024 * y + x)]? = some ((s.vram.read x y).extractLsb' 0 8) ∧
      s.blob[1032 + 2 * (1024 * y + x) + 1]? = some ((s.vram.read x y).extractLsb' 8 8)) ∧
  ∀ (s t : State), s.cfg.freezeVersion = t.cfg.freezeVersion →
    ∃ u, portStep (.thaw s.blob) t = .next u ∧ u.replies = t.replies ++ [.thawed true] ∧
      u.csr = s.csr ∧ u.ctrlhist = s.ctrlhist ∧ (∀ a < 1048576, u.vram.readByte a = s.vram.readByte a) ∧
      u.cmdbuf = [] ∧ u.wmode = .framing ∧ u.rmode = .normal ∧ u.busycnt = 0 ∧
      u.frameskip = t.frameskip ∧ u.out = t.out ∧ u.cfg = t.cfg ∧ u.blob = s.blob

/-- A record of the wrong length or version is refused with no state change (R309).
Rests on the spec's own decisions D22, D23 of 92_eei_decisions.md; the log of replies is the model's choice, log 11. -/
def Obligations.ThawRefusesForeignRecord : Prop :=
  ∀ (s : State) (blob : List Byte),
    (blob.length ≠ 1049608 ∨
      blob.getD 3 0 ++ blob.getD 2 0 ++ blob.getD 1 0 ++ blob.getD 0 0 ≠ s.cfg.freezeVersion) →
    portStep (.thaw blob) s = .next { s with replies := s.replies ++ [.thawed false] }

/-- `PowerOn` sets every register to its value in the table of R53, at any time; VRAM is whatever it is. The values other than `CSR`'s
are the spec's decision D20. R53 leaves the two transfer cursors unspecified: the zeros they take with the rest of `State.reset` are the
model's choice (log 7), and so is what stays (configuration, pending operations, replies; log 22).
Rests on the spec's own decisions D20, D33 of 92_eei_decisions.md. -/
def Obligations.PowerOnRestoresResetTable : Prop :=
  ∀ (s : State), ∃ t, portStep .powerOn s = .next t ∧
    t = { State.reset with
      cfg := s.cfg, inputs := s.inputs, replies := s.replies, vram := t.vram, freeCount := t.freeCount }

/-! ### Reset and derived accessors -/

/-- At reset, after `PowerOn` and after control command 0x00, `CSR` has exactly ready-for-DMA, GPU-idle, display-disabled and
interlace-field set, all else 0 (R31).
Rests on the spec's own decision D1 of 92_eei_decisions.md. -/
def Obligations.ResetStatusFields : Prop :=
  (∀ b < 32, State.reset.csr.getLsbD b = decide (b = 28 ∨ b = 26 ∨ b = 23 ∨ b = 13)) ∧
    Csr.drdy State.reset.csr = true ∧ Csr.idle State.reset.csr = true ∧ Csr.dispoff State.reset.csr = true ∧
    Csr.lcf State.reset.csr = true ∧ State.reset.csr = 0x14802000 ∧
    (∀ s, ∃ t, portStep .powerOn s = .next t ∧ t.csr = 0x14802000) ∧
    ∀ s m p, ∃ t, exec (.cReset m p) s = .next t ∧ t.csr = 0x14802000

/-- A snapshot is the context of its moment: `CSR[10:0]`, the mask and texture-disable bits, and the five context registers (R33); a
record is emitted with it, last (R13).
Rests on the spec's own decision D1 of 92_eei_decisions.md. -/
def Obligations.SnapshotReadsContext : Prop :=
  ∀ (s : State) (r : Record), (s.emit r).out = s.out ++ [(r, {
    mode := s.csr.extractLsb' 0 11, md := s.csr.getLsbD 11, me := s.csr.getLsbD 12, txd := s.csr.getLsbD 15
    texflip := s.texflip, texwin := s.texwin, drawTl := s.drawTl, drawBr := s.drawBr, drawOfs := s.drawOfs })]

/-- The derived values: texture-page bases of the status register (R26), DMA direction (R25), the interrupt line (R326), CLUT and
texture-page fields of a texture word (R138, R139), the fields of the context and display registers (R32, R34).
Rests on the spec's own decisions D1, D7, D15, D30 of 92_eei_decisions.md. -/
def Obligations.DerivedAccessorsReadTheirFields : Prop :=
  (∀ v : Word, Csr.tpageBaseX v = v.toNat % 16 * 64 ∧ Csr.tpageBaseY v = v.toNat / 16 % 2 * 256) ∧
  (∀ v : Word, (dmaDirection v = .off ↔ v.toNat / 2 ^ 29 % 4 = 0) ∧ (dmaDirection v = .fifoQuery ↔ v.toNat / 2 ^ 29 % 4 = 1) ∧
    (dmaDirection v = .cpuToGpu ↔ v.toNat / 2 ^ 29 % 4 = 2) ∧ (dmaDirection v = .gpuToCpu ↔ v.toNat / 2 ^ 29 % 4 = 3)) ∧
  (∀ s : State, s.irqOut = s.csr.getLsbD 24) ∧
  (∀ w : Word, clutX (highHalf w) = w.toNat / 2 ^ 16 % 64 * 16 ∧ clutY (highHalf w) = w.toNat / 2 ^ 22 % 512) ∧
  (∀ w : Word, tpageX (highHalf w) = w.toNat / 2 ^ 16 % 16 * 64 ∧ tpageY (highHalf w) = w.toNat / 2 ^ 20 % 2 * 256 ∧
    (tpageAbr (highHalf w)).toNat = w.toNat / 2 ^ 21 % 4 ∧ (tpageTpf (highHalf w)).toNat = w.toNat / 2 ^ 23 % 4 ∧
    tpageDisable (highHalf w) = w.getLsbD 27) ∧
  (∀ v : BitVec 22, -1024 ≤ (drawOfsFields v).1 ∧ (drawOfsFields v).1 ≤ 1023 ∧ -1024 ≤ (drawOfsFields v).2 ∧
    (drawOfsFields v).2 ≤ 1023 ∧ ((drawOfsFields v).1 - v.toNat) % 2048 = 0 ∧
    ((drawOfsFields v).2 - (v.toNat / 2048 : Nat)) % 2048 = 0) ∧
  (∀ v : BitVec 19, (cornerFields v).1.toNat = v.toNat % 1024 ∧ (cornerFields v).2.toNat = v.toNat / 1024) ∧
  (∀ v : BitVec 20, (texwinFields v).1.toNat = v.toNat % 32 ∧ (texwinFields v).2.1.toNat = v.toNat / 32 % 32 ∧
    (texwinFields v).2.2.1.toNat = v.toNat / 1024 % 32 ∧ (texwinFields v).2.2.2.toNat = v.toNat / 32768) ∧
  (∀ v : BitVec 24, (hrangeFields v).1.toNat = v.toNat % 4096 ∧ (hrangeFields v).2.toNat = v.toNat / 4096) ∧
  ∀ v : BitVec 20, (vrangeFields v).1.toNat = v.toNat % 1024 ∧ (vrangeFields v).2.toNat = v.toNat / 1024

/-! ### Rules of the whole machine -/

/-- No command but the control reset changes a status bit that nothing in the block drives: `LCF`, `DREQ`, `IDLE`, `DRDY`, `ODD`
(R22, R28, R29).
Rests on the spec's own decisions D1, D35 of 92_eei_decisions.md. -/
def Obligations.CommandsNeverDriveUndrivenBits : Prop :=
  ∀ (i : Instr) (s t : State), exec i s = .next t → (∀ m p, i ≠ .cReset m p) →
    ∀ b ∈ [13, 25, 26, 28, 31], t.csr.getLsbD b = s.csr.getLsbD b

/-- No command but `FILL` and `MOVE` changes VRAM at dispatch: geometry, attribute and control commands never touch it (R70, R160). -/
def Obligations.OnlyFillAndMoveWriteVram : Prop :=
  ∀ (i : Instr) (s t : State), exec i s = .next t →
    (∀ c d z, i ≠ .fill c d z) → (∀ id a b z, i ≠ .move id a b z) → t.vram = s.vram

/-- `CSR.VRDY = 1` iff a read transfer is open is kept by every step but a raw overwrite and a thaw (R28, R42).
Rests on the spec's own decisions D21, D31 of 92_eei_decisions.md. -/
def Obligations.VrdyMarksOpenReadTransfer : Prop :=
  ∀ (s t : State), s.cfg.resetClearsAssembler = true → s.vrdyAgrees → step s = .next t →
    (∀ v rest, s.inputs ≠ .writeStatusRaw v :: rest) → (∀ blob rest, s.inputs ≠ .thaw blob :: rest) → t.vrdyAgrees

/-- No step changes the configuration, and records already emitted stay, in order, but at a power-on (R8, R13, R33, R93). -/
def Obligations.StepKeepsConfigAndRecords : Prop :=
  ∀ (s t : State), step s = .next t →
    t.cfg = s.cfg ∧ ((∀ rest, s.inputs ≠ .powerOn :: rest) → s.out <+: t.out)

/-- The default dispatch table: the ids of R108 have the length and the handler R108 gives them, the table is accepted (R8), and the
mirrors give the ids 0x81-0x9F, 0xA1-0xBF, 0xC1-0xDF the entries of 0x80, 0xA0, 0xC0 in any table.
Rests on the spec's own decision D3 of 92_eei_decisions.md. -/
def Obligations.DefaultTableSelectsHandlers : Prop :=
  let has (lo hi : Nat) (l : LengthClass) (h : Handler) : Prop :=
    ∀ id : BitVec 8, lo ≤ id.toNat → id.toNat ≤ hi → Config.default.entry id = some ⟨l, h⟩
  (has 0x02 0x02 (.fixed 3) .fill ∧ has 0x1F 0x1F (.fixed 1) .irq1 ∧
    has 0x20 0x23 (.fixed 4) .polyF3 ∧ has 0x24 0x27 (.fixed 7) .polyFT3 ∧
    has 0x28 0x2B (.fixed 5) .polyF4 ∧ has 0x2C 0x2F (.fixed 9) .polyFT4 ∧
    has 0x30 0x33 (.fixed 6) .polyG3 ∧ has 0x34 0x37 (.fixed 9) .polyGT3 ∧
    has 0x38 0x3B (.fixed 8) .polyG4 ∧ has 0x3C 0x3F (.fixed 12) .polyGT4 ∧
    has 0x40 0x47 (.fixed 3) .lineF2 ∧ has 0x48 0x4F .varF .plineF ∧
    has 0x50 0x57 (.fixed 4) .lineG2 ∧ has 0x58 0x5F .varG .plineG ∧
    has 0x60 0x63 (.fixed 3) .tile ∧ has 0x64 0x67 (.fixed 4) .sprt ∧
    has 0x68 0x6B (.fixed 2) .tile1 ∧ has 0x6C 0x6F (.fixed 3) .sprt1 ∧
    has 0x70 0x73 (.fixed 2) .tile8 ∧ has 0x74 0x77 (.fixed 3) .sprt8 ∧
    has 0x78 0x7B (.fixed 2) .tile16 ∧ has 0x7C 0x7F (.fixed 3) .sprt16 ∧
    has 0x80 0x80 (.fixed 4) .move ∧ has 0xA0 0xA0 (.fixed 3) .load ∧ has 0xC0 0xC0 (.fixed 3) .store ∧
    has 0xE1 0xE1 (.fixed 1) .texpage ∧ has 0xE2 0xE2 (.fixed 1) .texwin ∧ has 0xE3 0xE3 (.fixed 1) .drawareaTL ∧
    has 0xE4 0xE4 (.fixed 1) .drawareaBR ∧ has 0xE5 0xE5 (.fixed 1) .drawofs ∧ has 0xE6 0xE6 (.fixed 1) .maskset) ∧
  Config.default.wf = true ∧
  ∀ (c : Config) (id : BitVec 8), { c with transferMirrors := true }.entry id =
    { c with transferMirrors := false }.entry
      (if 0x81 ≤ id.toNat ∧ id.toNat ≤ 0x9F then 0x80 else if 0xA1 ≤ id.toNat ∧ id.toNat ≤ 0xBF then 0xA0
       else if 0xC1 ≤ id.toNat ∧ id.toNat ≤ 0xDF then 0xC0 else id)
end

