-- ==== Sys2Proof/Laws/Flags.lean ====
section
/-!
SUPPORT. Laws/Flags.lean: what a field write does to every bit of the status register.
-/

namespace Sys2Proof.Machine

-- One proof at a time: the threads of proofs elaborated side by side need too much memory.
set_option Elab.async false

/-- A field write replaces its bits and leaves every other bit alone (R11). -/
theorem getLsbD_setBits (v : Word) (lo : Nat) {n : Nat} (f : BitVec n) {b : Nat} (hb : b < 32) :
    (setBits v lo f).getLsbD b = if lo ≤ b ∧ b < lo + n then f.getLsbD (b - lo) else v.getLsbD b := by
  unfold setBits
  simp only [BitVec.getLsbD_or, BitVec.getLsbD_and, BitVec.getLsbD_not, BitVec.getLsbD_shiftLeft, BitVec.getLsbD_setWidth,
    BitVec.getLsbD_allOnes, hb, decide_true, Bool.true_and]
  by_cases h1 : lo ≤ b
  · by_cases h2 : b < lo + n
    · simp [h1, h2, show ¬b < lo by omega, show b - lo < 32 by omega, show b - lo < n by omega]
    · simp [h1, h2, show ¬b < lo by omega, show b - lo < 32 by omega, show ¬b - lo < n by omega,
        BitVec.getLsbD_of_ge f (b - lo) (by omega)]
  · simp [h1, show b < lo by omega]

/-- A one-bit write replaces its bit and leaves every other bit alone (R11). -/
theorem getLsbD_setBit (v : Word) (i : Nat) (x : Bool) {b : Nat} (hb : b < 32) :
    (setBit v i x).getLsbD b = if b = i then x else v.getLsbD b := by
  rw [setBit, getLsbD_setBits v i _ hb]
  by_cases h : b = i
  · subst h; simp
  · rw [if_neg (show ¬(i ≤ b ∧ b < i + 1) by omega), if_neg h]

/-- Setting a bit is an `or` with its weight. -/
theorem setBit_true (v : Word) (i : Nat) : setBit v i true = v ||| (1#32 <<< i) := by
  apply BitVec.eq_of_getLsbD_eq
  intro b hb
  rw [getLsbD_setBit v i _ hb]
  by_cases h : b = i
  · subst h; simp [hb]
  · by_cases h' : b < i
    · simp [h, h', hb]
    · simp [h, h', hb, show ¬b - i = 0 by omega]

/-- Clearing a bit is an `and` with the complement of its weight. -/
theorem setBit_false (v : Word) (i : Nat) : setBit v i false = v &&& ~~~(1#32 <<< i) := by
  apply BitVec.eq_of_getLsbD_eq
  intro b hb
  rw [getLsbD_setBit v i _ hb]
  by_cases h : b = i
  · subst h; simp [hb]
  · by_cases h' : b < i
    · simp [h, h', hb]
    · simp [h, h', hb, show ¬b - i = 0 by omega]

theorem getLsbD_csrTexpage (v : Word) (mode : BitVec 11) (txd : Bool) {b : Nat} (hb : b < 32) :
    (csrTexpage v mode txd).getLsbD b = if b ≤ 10 then mode.getLsbD b else if b = 15 then txd else v.getLsbD b := by
  rw [csrTexpage, getLsbD_setBit _ _ _ hb, getLsbD_setBits _ _ _ hb]
  split <;> split <;> simp_all <;> omega

theorem getLsbD_csrPolyTexpage (v : Word) (p : BitVec 16) (allow : Bool) {b : Nat} (hb : b < 32) :
    (csrPolyTexpage v p allow).getLsbD b =
      if b ≤ 8 then p.getLsbD b else if b = 15 then p.getLsbD 11 && allow else v.getLsbD b := by
  rw [csrPolyTexpage, getLsbD_setBit _ _ _ hb, getLsbD_setBits _ _ _ hb]
  rcases Nat.lt_or_ge b 9 with h | h
  · simp [show b ≤ 8 by omega, show ¬b = 15 by omega, h]
  · simp [show ¬b ≤ 8 by omega, show ¬b < 9 by omega, tpageDisable]

theorem getLsbD_csrMask (v : Word) (md me : Bool) {b : Nat} (hb : b < 32) :
    (csrMask v md me).getLsbD b = if b = 11 then md else if b = 12 then me else v.getLsbD b := by
  rw [csrMask, getLsbD_setBit _ _ _ hb, getLsbD_setBit _ _ _ hb]
  split <;> split <;> simp_all

theorem getLsbD_csrVrdy (v : Word) (x : Bool) {b : Nat} (hb : b < 32) :
    (csrVrdy v x).getLsbD b = if b = 27 then x else v.getLsbD b := getLsbD_setBit v 27 x hb

theorem getLsbD_csrIrq1 (v : Word) (x : Bool) {b : Nat} (hb : b < 32) :
    (csrIrq1 v x).getLsbD b = if b = 24 then x else v.getLsbD b := getLsbD_setBit v 24 x hb

theorem csrVrdy_true (v : Word) : csrVrdy v true = v ||| 0x08000000#32 := setBit_true v 27

theorem csrVrdy_false (v : Word) : csrVrdy v false = v &&& ~~~0x08000000#32 := setBit_false v 27

theorem csrIrq1_true (v : Word) : csrIrq1 v true = v ||| 0x01000000#32 := setBit_true v 24

theorem csrIrq1_false (v : Word) : csrIrq1 v false = v &&& ~~~0x01000000#32 := setBit_false v 24

/-- The eight bits of a display-mode operand and where they go (R280). -/
theorem getLsbD_csrDisplayMode (v : Word) (p : BitVec 24) {b : Nat} (hb : b < 32) :
    (csrDisplayMode v p).getLsbD b =
      if b = 17 then p.getLsbD 0 else if b = 18 then p.getLsbD 1 else if b = 19 then p.getLsbD 2
      else if b = 20 then p.getLsbD 3 else if b = 21 then p.getLsbD 4 else if b = 22 then p.getLsbD 5
      else if b = 16 then p.getLsbD 6 else if b = 14 then p.getLsbD 7 else v.getLsbD b := by
  simp only [csrDisplayMode, getLsbD_setBit _ _ _ hb, getLsbD_setBits _ _ _ hb]
  rcases Nat.lt_or_ge b 14 with h | h
  · simp [show b ≠ 14 by omega, show b ≠ 16 by omega, show b ≠ 17 by omega, show b ≠ 18 by omega, show b ≠ 19 by omega,
      show b ≠ 20 by omega, show b ≠ 21 by omega, show b ≠ 22 by omega, show ¬17 ≤ b by omega]
  · rcases Nat.lt_or_ge b 23 with h' | h'
    · interval_cases b <;> simp
    · simp [show b ≠ 14 by omega, show b ≠ 16 by omega, show b ≠ 17 by omega, show b ≠ 18 by omega, show b ≠ 19 by omega,
        show b ≠ 20 by omega, show b ≠ 21 by omega, show b ≠ 22 by omega, show ¬b < 19 by omega]

end Sys2Proof.Machine
end

