-- ==== Sys2Proof/Laws/State.lean ====
section
/-!
SUPPORT. Laws/State.lean: one lemma per field per update of the state, so that no proof unfolds a record update.
-/

namespace Sys2Proof.Machine

-- One proof at a time: the threads of proofs elaborated side by side need too much memory.
set_option Elab.async false

/-! ### `State.withCsr` -/

@[simp] theorem State.withCsr_cfg (s : State) (v : Word) : (s.withCsr v).cfg = s.cfg := rfl
@[simp] theorem State.withCsr_csr (s : State) (v : Word) : (s.withCsr v).csr = v := rfl
@[simp] theorem State.withCsr_texwin (s : State) (v : Word) : (s.withCsr v).texwin = s.texwin := rfl
@[simp] theorem State.withCsr_drawTl (s : State) (v : Word) : (s.withCsr v).drawTl = s.drawTl := rfl
@[simp] theorem State.withCsr_drawBr (s : State) (v : Word) : (s.withCsr v).drawBr = s.drawBr := rfl
@[simp] theorem State.withCsr_drawOfs (s : State) (v : Word) : (s.withCsr v).drawOfs = s.drawOfs := rfl
@[simp] theorem State.withCsr_texflip (s : State) (v : Word) : (s.withCsr v).texflip = s.texflip := rfl
@[simp] theorem State.withCsr_texdisAllow (s : State) (v : Word) : (s.withCsr v).texdisAllow = s.texdisAllow := rfl
@[simp] theorem State.withCsr_dispOrigin (s : State) (v : Word) : (s.withCsr v).dispOrigin = s.dispOrigin := rfl
@[simp] theorem State.withCsr_hrange (s : State) (v : Word) : (s.withCsr v).hrange = s.hrange := rfl
@[simp] theorem State.withCsr_vrange (s : State) (v : Word) : (s.withCsr v).vrange = s.vrange := rfl
@[simp] theorem State.withCsr_readback (s : State) (v : Word) : (s.withCsr v).readback = s.readback := rfl
@[simp] theorem State.withCsr_cmdbuf (s : State) (v : Word) : (s.withCsr v).cmdbuf = s.cmdbuf := rfl
@[simp] theorem State.withCsr_wmode (s : State) (v : Word) : (s.withCsr v).wmode = s.wmode := rfl
@[simp] theorem State.withCsr_wcur (s : State) (v : Word) : (s.withCsr v).wcur = s.wcur := rfl
@[simp] theorem State.withCsr_rmode (s : State) (v : Word) : (s.withCsr v).rmode = s.rmode := rfl
@[simp] theorem State.withCsr_rcur (s : State) (v : Word) : (s.withCsr v).rcur = s.rcur := rfl
@[simp] theorem State.withCsr_busycnt (s : State) (v : Word) : (s.withCsr v).busycnt = s.busycnt := rfl
@[simp] theorem State.withCsr_frameskip (s : State) (v : Word) : (s.withCsr v).frameskip = s.frameskip := rfl
@[simp] theorem State.withCsr_ctrlhist (s : State) (v : Word) : (s.withCsr v).ctrlhist = s.ctrlhist := rfl
@[simp] theorem State.withCsr_vram (s : State) (v : Word) : (s.withCsr v).vram = s.vram := rfl
@[simp] theorem State.withCsr_out (s : State) (v : Word) : (s.withCsr v).out = s.out := rfl
@[simp] theorem State.withCsr_inputs (s : State) (v : Word) : (s.withCsr v).inputs = s.inputs := rfl
@[simp] theorem State.withCsr_replies (s : State) (v : Word) : (s.withCsr v).replies = s.replies := rfl
@[simp] theorem State.withCsr_freeCount (s : State) (v : Word) : (s.withCsr v).freeCount = s.freeCount := rfl

/-! ### `State.withVram` -/

@[simp] theorem State.withVram_cfg (s : State) (m : Vram) : (s.withVram m).cfg = s.cfg := rfl
@[simp] theorem State.withVram_csr (s : State) (m : Vram) : (s.withVram m).csr = s.csr := rfl
@[simp] theorem State.withVram_texwin (s : State) (m : Vram) : (s.withVram m).texwin = s.texwin := rfl
@[simp] theorem State.withVram_drawTl (s : State) (m : Vram) : (s.withVram m).drawTl = s.drawTl := rfl
@[simp] theorem State.withVram_drawBr (s : State) (m : Vram) : (s.withVram m).drawBr = s.drawBr := rfl
@[simp] theorem State.withVram_drawOfs (s : State) (m : Vram) : (s.withVram m).drawOfs = s.drawOfs := rfl
@[simp] theorem State.withVram_texflip (s : State) (m : Vram) : (s.withVram m).texflip = s.texflip := rfl
@[simp] theorem State.withVram_texdisAllow (s : State) (m : Vram) : (s.withVram m).texdisAllow = s.texdisAllow := rfl
@[simp] theorem State.withVram_dispOrigin (s : State) (m : Vram) : (s.withVram m).dispOrigin = s.dispOrigin := rfl
@[simp] theorem State.withVram_hrange (s : State) (m : Vram) : (s.withVram m).hrange = s.hrange := rfl
@[simp] theorem State.withVram_vrange (s : State) (m : Vram) : (s.withVram m).vrange = s.vrange := rfl
@[simp] theorem State.withVram_readback (s : State) (m : Vram) : (s.withVram m).readback = s.readback := rfl
@[simp] theorem State.withVram_cmdbuf (s : State) (m : Vram) : (s.withVram m).cmdbuf = s.cmdbuf := rfl
@[simp] theorem State.withVram_wmode (s : State) (m : Vram) : (s.withVram m).wmode = s.wmode := rfl
@[simp] theorem State.withVram_wcur (s : State) (m : Vram) : (s.withVram m).wcur = s.wcur := rfl
@[simp] theorem State.withVram_rmode (s : State) (m : Vram) : (s.withVram m).rmode = s.rmode := rfl
@[simp] theorem State.withVram_rcur (s : State) (m : Vram) : (s.withVram m).rcur = s.rcur := rfl
@[simp] theorem State.withVram_busycnt (s : State) (m : Vram) : (s.withVram m).busycnt = s.busycnt := rfl
@[simp] theorem State.withVram_frameskip (s : State) (m : Vram) : (s.withVram m).frameskip = s.frameskip := rfl
@[simp] theorem State.withVram_ctrlhist (s : State) (m : Vram) : (s.withVram m).ctrlhist = s.ctrlhist := rfl
@[simp] theorem State.withVram_vram (s : State) (m : Vram) : (s.withVram m).vram = m := rfl
@[simp] theorem State.withVram_out (s : State) (m : Vram) : (s.withVram m).out = s.out := rfl
@[simp] theorem State.withVram_inputs (s : State) (m : Vram) : (s.withVram m).inputs = s.inputs := rfl
@[simp] theorem State.withVram_replies (s : State) (m : Vram) : (s.withVram m).replies = s.replies := rfl
@[simp] theorem State.withVram_freeCount (s : State) (m : Vram) : (s.withVram m).freeCount = s.freeCount := rfl

/-! ### `State.emit` (R13) -/

@[simp] theorem State.emit_cfg (s : State) (r : Record) : (s.emit r).cfg = s.cfg := rfl
@[simp] theorem State.emit_csr (s : State) (r : Record) : (s.emit r).csr = s.csr := rfl
@[simp] theorem State.emit_texwin (s : State) (r : Record) : (s.emit r).texwin = s.texwin := rfl
@[simp] theorem State.emit_drawTl (s : State) (r : Record) : (s.emit r).drawTl = s.drawTl := rfl
@[simp] theorem State.emit_drawBr (s : State) (r : Record) : (s.emit r).drawBr = s.drawBr := rfl
@[simp] theorem State.emit_drawOfs (s : State) (r : Record) : (s.emit r).drawOfs = s.drawOfs := rfl
@[simp] theorem State.emit_texflip (s : State) (r : Record) : (s.emit r).texflip = s.texflip := rfl
@[simp] theorem State.emit_texdisAllow (s : State) (r : Record) : (s.emit r).texdisAllow = s.texdisAllow := rfl
@[simp] theorem State.emit_dispOrigin (s : State) (r : Record) : (s.emit r).dispOrigin = s.dispOrigin := rfl
@[simp] theorem State.emit_hrange (s : State) (r : Record) : (s.emit r).hrange = s.hrange := rfl
@[simp] theorem State.emit_vrange (s : State) (r : Record) : (s.emit r).vrange = s.vrange := rfl
@[simp] theorem State.emit_readback (s : State) (r : Record) : (s.emit r).readback = s.readback := rfl
@[simp] theorem State.emit_cmdbuf (s : State) (r : Record) : (s.emit r).cmdbuf = s.cmdbuf := rfl
@[simp] theorem State.emit_wmode (s : State) (r : Record) : (s.emit r).wmode = s.wmode := rfl
@[simp] theorem State.emit_wcur (s : State) (r : Record) : (s.emit r).wcur = s.wcur := rfl
@[simp] theorem State.emit_rmode (s : State) (r : Record) : (s.emit r).rmode = s.rmode := rfl
@[simp] theorem State.emit_rcur (s : State) (r : Record) : (s.emit r).rcur = s.rcur := rfl
@[simp] theorem State.emit_busycnt (s : State) (r : Record) : (s.emit r).busycnt = s.busycnt := rfl
@[simp] theorem State.emit_frameskip (s : State) (r : Record) : (s.emit r).frameskip = s.frameskip := rfl
@[simp] theorem State.emit_ctrlhist (s : State) (r : Record) : (s.emit r).ctrlhist = s.ctrlhist := rfl
@[simp] theorem State.emit_vram (s : State) (r : Record) : (s.emit r).vram = s.vram := rfl
@[simp] theorem State.emit_out (s : State) (r : Record) : (s.emit r).out = s.out ++ [(r, s.snapshot)] := rfl
@[simp] theorem State.emit_inputs (s : State) (r : Record) : (s.emit r).inputs = s.inputs := rfl
@[simp] theorem State.emit_replies (s : State) (r : Record) : (s.emit r).replies = s.replies := rfl
@[simp] theorem State.emit_freeCount (s : State) (r : Record) : (s.emit r).freeCount = s.freeCount := rfl

/-! ### `State.answer` -/

@[simp] theorem State.answer_cfg (s : State) (r : Reply) : (s.answer r).cfg = s.cfg := rfl
@[simp] theorem State.answer_csr (s : State) (r : Reply) : (s.answer r).csr = s.csr := rfl
@[simp] theorem State.answer_texwin (s : State) (r : Reply) : (s.answer r).texwin = s.texwin := rfl
@[simp] theorem State.answer_drawTl (s : State) (r : Reply) : (s.answer r).drawTl = s.drawTl := rfl
@[simp] theorem State.answer_drawBr (s : State) (r : Reply) : (s.answer r).drawBr = s.drawBr := rfl
@[simp] theorem State.answer_drawOfs (s : State) (r : Reply) : (s.answer r).drawOfs = s.drawOfs := rfl
@[simp] theorem State.answer_texflip (s : State) (r : Reply) : (s.answer r).texflip = s.texflip := rfl
@[simp] theorem State.answer_texdisAllow (s : State) (r : Reply) : (s.answer r).texdisAllow = s.texdisAllow := rfl
@[simp] theorem State.answer_dispOrigin (s : State) (r : Reply) : (s.answer r).dispOrigin = s.dispOrigin := rfl
@[simp] theorem State.answer_hrange (s : State) (r : Reply) : (s.answer r).hrange = s.hrange := rfl
@[simp] theorem State.answer_vrange (s : State) (r : Reply) : (s.answer r).vrange = s.vrange := rfl
@[simp] theorem State.answer_readback (s : State) (r : Reply) : (s.answer r).readback = s.readback := rfl
@[simp] theorem State.answer_cmdbuf (s : State) (r : Reply) : (s.answer r).cmdbuf = s.cmdbuf := rfl
@[simp] theorem State.answer_wmode (s : State) (r : Reply) : (s.answer r).wmode = s.wmode := rfl
@[simp] theorem State.answer_wcur (s : State) (r : Reply) : (s.answer r).wcur = s.wcur := rfl
@[simp] theorem State.answer_rmode (s : State) (r : Reply) : (s.answer r).rmode = s.rmode := rfl
@[simp] theorem State.answer_rcur (s : State) (r : Reply) : (s.answer r).rcur = s.rcur := rfl
@[simp] theorem State.answer_busycnt (s : State) (r : Reply) : (s.answer r).busycnt = s.busycnt := rfl
@[simp] theorem State.answer_frameskip (s : State) (r : Reply) : (s.answer r).frameskip = s.frameskip := rfl
@[simp] theorem State.answer_ctrlhist (s : State) (r : Reply) : (s.answer r).ctrlhist = s.ctrlhist := rfl
@[simp] theorem State.answer_vram (s : State) (r : Reply) : (s.answer r).vram = s.vram := rfl
@[simp] theorem State.answer_out (s : State) (r : Reply) : (s.answer r).out = s.out := rfl
@[simp] theorem State.answer_inputs (s : State) (r : Reply) : (s.answer r).inputs = s.inputs := rfl
@[simp] theorem State.answer_replies (s : State) (r : Reply) : (s.answer r).replies = s.replies ++ [r] := rfl
@[simp] theorem State.answer_freeCount (s : State) (r : Reply) : (s.answer r).freeCount = s.freeCount := rfl

/-! ### `State.endDispatch` (R248, R252) -/

@[simp] theorem State.endDispatch_cfg (s : State) : s.endDispatch.cfg = s.cfg := rfl
@[simp] theorem State.endDispatch_csr (s : State) : s.endDispatch.csr = s.csr := rfl
@[simp] theorem State.endDispatch_texwin (s : State) : s.endDispatch.texwin = s.texwin := rfl
@[simp] theorem State.endDispatch_drawTl (s : State) : s.endDispatch.drawTl = s.drawTl := rfl
@[simp] theorem State.endDispatch_drawBr (s : State) : s.endDispatch.drawBr = s.drawBr := rfl
@[simp] theorem State.endDispatch_drawOfs (s : State) : s.endDispatch.drawOfs = s.drawOfs := rfl
@[simp] theorem State.endDispatch_texflip (s : State) : s.endDispatch.texflip = s.texflip := rfl
@[simp] theorem State.endDispatch_texdisAllow (s : State) : s.endDispatch.texdisAllow = s.texdisAllow := rfl
@[simp] theorem State.endDispatch_dispOrigin (s : State) : s.endDispatch.dispOrigin = s.dispOrigin := rfl
@[simp] theorem State.endDispatch_hrange (s : State) : s.endDispatch.hrange = s.hrange := rfl
@[simp] theorem State.endDispatch_vrange (s : State) : s.endDispatch.vrange = s.vrange := rfl
@[simp] theorem State.endDispatch_readback (s : State) : s.endDispatch.readback = s.readback := rfl
@[simp] theorem State.endDispatch_cmdbuf (s : State) : s.endDispatch.cmdbuf = [] := rfl
@[simp] theorem State.endDispatch_wmode (s : State) : s.endDispatch.wmode = s.wmode := rfl
@[simp] theorem State.endDispatch_wcur (s : State) : s.endDispatch.wcur = s.wcur := rfl
@[simp] theorem State.endDispatch_rmode (s : State) : s.endDispatch.rmode = s.rmode := rfl
@[simp] theorem State.endDispatch_rcur (s : State) : s.endDispatch.rcur = s.rcur := rfl
@[simp] theorem State.endDispatch_busycnt (s : State) : s.endDispatch.busycnt = if 0 < s.cfg.fakeBusyReads then s.cfg.fakeBusyReads else s.busycnt := rfl
@[simp] theorem State.endDispatch_frameskip (s : State) : s.endDispatch.frameskip = s.frameskip := rfl
@[simp] theorem State.endDispatch_ctrlhist (s : State) : s.endDispatch.ctrlhist = s.ctrlhist := rfl
@[simp] theorem State.endDispatch_vram (s : State) : s.endDispatch.vram = s.vram := rfl
@[simp] theorem State.endDispatch_out (s : State) : s.endDispatch.out = s.out := rfl
@[simp] theorem State.endDispatch_inputs (s : State) : s.endDispatch.inputs = s.inputs := rfl
@[simp] theorem State.endDispatch_replies (s : State) : s.endDispatch.replies = s.replies := rfl
@[simp] theorem State.endDispatch_freeCount (s : State) : s.endDispatch.freeCount = s.freeCount := rfl

/-! ### `State.recordControl` (R270) -/

@[simp] theorem State.recordControl_cfg (s : State) (m : BitVec 2) (c : BitVec 6) (p : BitVec 24) : (s.recordControl m c p).cfg = s.cfg := rfl
@[simp] theorem State.recordControl_csr (s : State) (m : BitVec 2) (c : BitVec 6) (p : BitVec 24) : (s.recordControl m c p).csr = s.csr := rfl
@[simp] theorem State.recordControl_texwin (s : State) (m : BitVec 2) (c : BitVec 6) (p : BitVec 24) : (s.recordControl m c p).texwin = s.texwin := rfl
@[simp] theorem State.recordControl_drawTl (s : State) (m : BitVec 2) (c : BitVec 6) (p : BitVec 24) : (s.recordControl m c p).drawTl = s.drawTl := rfl
@[simp] theorem State.recordControl_drawBr (s : State) (m : BitVec 2) (c : BitVec 6) (p : BitVec 24) : (s.recordControl m c p).drawBr = s.drawBr := rfl
@[simp] theorem State.recordControl_drawOfs (s : State) (m : BitVec 2) (c : BitVec 6) (p : BitVec 24) : (s.recordControl m c p).drawOfs = s.drawOfs := rfl
@[simp] theorem State.recordControl_texflip (s : State) (m : BitVec 2) (c : BitVec 6) (p : BitVec 24) : (s.recordControl m c p).texflip = s.texflip := rfl
@[simp] theorem State.recordControl_texdisAllow (s : State) (m : BitVec 2) (c : BitVec 6) (p : BitVec 24) : (s.recordControl m c p).texdisAllow = s.texdisAllow := rfl
@[simp] theorem State.recordControl_dispOrigin (s : State) (m : BitVec 2) (c : BitVec 6) (p : BitVec 24) : (s.recordControl m c p).dispOrigin = s.dispOrigin := rfl
@[simp] theorem State.recordControl_hrange (s : State) (m : BitVec 2) (c : BitVec 6) (p : BitVec 24) : (s.recordControl m c p).hrange = s.hrange := rfl
@[simp] theorem State.recordControl_vrange (s : State) (m : BitVec 2) (c : BitVec 6) (p : BitVec 24) : (s.recordControl m c p).vrange = s.vrange := rfl
@[simp] theorem State.recordControl_readback (s : State) (m : BitVec 2) (c : BitVec 6) (p : BitVec 24) : (s.recordControl m c p).readback = s.readback := rfl
@[simp] theorem State.recordControl_cmdbuf (s : State) (m : BitVec 2) (c : BitVec 6) (p : BitVec 24) : (s.recordControl m c p).cmdbuf = s.cmdbuf := rfl
@[simp] theorem State.recordControl_wmode (s : State) (m : BitVec 2) (c : BitVec 6) (p : BitVec 24) : (s.recordControl m c p).wmode = s.wmode := rfl
@[simp] theorem State.recordControl_wcur (s : State) (m : BitVec 2) (c : BitVec 6) (p : BitVec 24) : (s.recordControl m c p).wcur = s.wcur := rfl
@[simp] theorem State.recordControl_rmode (s : State) (m : BitVec 2) (c : BitVec 6) (p : BitVec 24) : (s.recordControl m c p).rmode = s.rmode := rfl
@[simp] theorem State.recordControl_rcur (s : State) (m : BitVec 2) (c : BitVec 6) (p : BitVec 24) : (s.recordControl m c p).rcur = s.rcur := rfl
@[simp] theorem State.recordControl_busycnt (s : State) (m : BitVec 2) (c : BitVec 6) (p : BitVec 24) : (s.recordControl m c p).busycnt = s.busycnt := rfl
@[simp] theorem State.recordControl_frameskip (s : State) (m : BitVec 2) (c : BitVec 6) (p : BitVec 24) : (s.recordControl m c p).frameskip = s.frameskip := rfl
@[simp] theorem State.recordControl_ctrlhist (s : State) (m : BitVec 2) (c : BitVec 6) (p : BitVec 24) : (s.recordControl m c p).ctrlhist = s.ctrlhist.set (m ++ c).toNat (encControl m c p) (m ++ c).isLt := rfl
@[simp] theorem State.recordControl_vram (s : State) (m : BitVec 2) (c : BitVec 6) (p : BitVec 24) : (s.recordControl m c p).vram = s.vram := rfl
@[simp] theorem State.recordControl_out (s : State) (m : BitVec 2) (c : BitVec 6) (p : BitVec 24) : (s.recordControl m c p).out = s.out := rfl
@[simp] theorem State.recordControl_inputs (s : State) (m : BitVec 2) (c : BitVec 6) (p : BitVec 24) : (s.recordControl m c p).inputs = s.inputs := rfl
@[simp] theorem State.recordControl_replies (s : State) (m : BitVec 2) (c : BitVec 6) (p : BitVec 24) : (s.recordControl m c p).replies = s.replies := rfl
@[simp] theorem State.recordControl_freeCount (s : State) (m : BitVec 2) (c : BitVec 6) (p : BitVec 24) : (s.recordControl m c p).freeCount = s.freeCount := rfl

/-! ### `State.clearFifo` (R273) -/

@[simp] theorem State.clearFifo_cfg (s : State) : s.clearFifo.cfg = s.cfg := rfl
@[simp] theorem State.clearFifo_csr (s : State) : s.clearFifo.csr = csrVrdy s.csr false := rfl
@[simp] theorem State.clearFifo_texwin (s : State) : s.clearFifo.texwin = s.texwin := rfl
@[simp] theorem State.clearFifo_drawTl (s : State) : s.clearFifo.drawTl = s.drawTl := rfl
@[simp] theorem State.clearFifo_drawBr (s : State) : s.clearFifo.drawBr = s.drawBr := rfl
@[simp] theorem State.clearFifo_drawOfs (s : State) : s.clearFifo.drawOfs = s.drawOfs := rfl
@[simp] theorem State.clearFifo_texflip (s : State) : s.clearFifo.texflip = s.texflip := rfl
@[simp] theorem State.clearFifo_texdisAllow (s : State) : s.clearFifo.texdisAllow = s.texdisAllow := rfl
@[simp] theorem State.clearFifo_dispOrigin (s : State) : s.clearFifo.dispOrigin = s.dispOrigin := rfl
@[simp] theorem State.clearFifo_hrange (s : State) : s.clearFifo.hrange = s.hrange := rfl
@[simp] theorem State.clearFifo_vrange (s : State) : s.clearFifo.vrange = s.vrange := rfl
@[simp] theorem State.clearFifo_readback (s : State) : s.clearFifo.readback = s.readback := rfl
@[simp] theorem State.clearFifo_cmdbuf (s : State) : s.clearFifo.cmdbuf = [] := rfl
@[simp] theorem State.clearFifo_wmode (s : State) : s.clearFifo.wmode = .framing := rfl
@[simp] theorem State.clearFifo_wcur (s : State) : s.clearFifo.wcur = s.wcur := rfl
@[simp] theorem State.clearFifo_rmode (s : State) : s.clearFifo.rmode = .normal := rfl
@[simp] theorem State.clearFifo_rcur (s : State) : s.clearFifo.rcur = s.rcur := rfl
@[simp] theorem State.clearFifo_busycnt (s : State) : s.clearFifo.busycnt = s.busycnt := rfl
@[simp] theorem State.clearFifo_frameskip (s : State) : s.clearFifo.frameskip = s.frameskip := rfl
@[simp] theorem State.clearFifo_ctrlhist (s : State) : s.clearFifo.ctrlhist = s.ctrlhist := rfl
@[simp] theorem State.clearFifo_vram (s : State) : s.clearFifo.vram = s.vram := rfl
@[simp] theorem State.clearFifo_out (s : State) : s.clearFifo.out = s.out := rfl
@[simp] theorem State.clearFifo_inputs (s : State) : s.clearFifo.inputs = s.inputs := rfl
@[simp] theorem State.clearFifo_replies (s : State) : s.clearFifo.replies = s.replies := rfl
@[simp] theorem State.clearFifo_freeCount (s : State) : s.clearFifo.freeCount = s.freeCount := rfl

/-! ### `State.resetRegisters` (R272) -/

@[simp] theorem State.resetRegisters_cfg (s : State) : s.resetRegisters.cfg = s.cfg := rfl
@[simp] theorem State.resetRegisters_csr (s : State) : s.resetRegisters.csr = csrReset := rfl
@[simp] theorem State.resetRegisters_texwin (s : State) : s.resetRegisters.texwin = 0 := rfl
@[simp] theorem State.resetRegisters_drawTl (s : State) : s.resetRegisters.drawTl = 0 := rfl
@[simp] theorem State.resetRegisters_drawBr (s : State) : s.resetRegisters.drawBr = 0 := rfl
@[simp] theorem State.resetRegisters_drawOfs (s : State) : s.resetRegisters.drawOfs = 0 := rfl
@[simp] theorem State.resetRegisters_texflip (s : State) : s.resetRegisters.texflip = 0 := rfl
@[simp] theorem State.resetRegisters_texdisAllow (s : State) : s.resetRegisters.texdisAllow = false := rfl
@[simp] theorem State.resetRegisters_dispOrigin (s : State) : s.resetRegisters.dispOrigin = 0 := rfl
@[simp] theorem State.resetRegisters_hrange (s : State) : s.resetRegisters.hrange = hrangeReset := rfl
@[simp] theorem State.resetRegisters_vrange (s : State) : s.resetRegisters.vrange = vrangeReset := rfl
@[simp] theorem State.resetRegisters_readback (s : State) : s.resetRegisters.readback = s.readback := rfl
@[simp] theorem State.resetRegisters_cmdbuf (s : State) : s.resetRegisters.cmdbuf = s.cmdbuf := rfl
@[simp] theorem State.resetRegisters_wmode (s : State) : s.resetRegisters.wmode = s.wmode := rfl
@[simp] theorem State.resetRegisters_wcur (s : State) : s.resetRegisters.wcur = s.wcur := rfl
@[simp] theorem State.resetRegisters_rmode (s : State) : s.resetRegisters.rmode = s.rmode := rfl
@[simp] theorem State.resetRegisters_rcur (s : State) : s.resetRegisters.rcur = s.rcur := rfl
@[simp] theorem State.resetRegisters_busycnt (s : State) : s.resetRegisters.busycnt = s.busycnt := rfl
@[simp] theorem State.resetRegisters_frameskip (s : State) : s.resetRegisters.frameskip = s.frameskip := rfl
@[simp] theorem State.resetRegisters_ctrlhist (s : State) : s.resetRegisters.ctrlhist = s.ctrlhist := rfl
@[simp] theorem State.resetRegisters_vram (s : State) : s.resetRegisters.vram = s.vram := rfl
@[simp] theorem State.resetRegisters_out (s : State) : s.resetRegisters.out = s.out := rfl
@[simp] theorem State.resetRegisters_inputs (s : State) : s.resetRegisters.inputs = s.inputs := rfl
@[simp] theorem State.resetRegisters_replies (s : State) : s.resetRegisters.replies = s.replies := rfl
@[simp] theorem State.resetRegisters_freeCount (s : State) : s.resetRegisters.freeCount = s.freeCount := rfl

/-! ### `State.powerOn` (R310) -/

@[simp] theorem State.powerOn_cfg (s : State) : s.powerOn.cfg = s.cfg := rfl
@[simp] theorem State.powerOn_csr (s : State) : s.powerOn.csr = State.reset.csr := rfl
@[simp] theorem State.powerOn_texwin (s : State) : s.powerOn.texwin = State.reset.texwin := rfl
@[simp] theorem State.powerOn_drawTl (s : State) : s.powerOn.drawTl = State.reset.drawTl := rfl
@[simp] theorem State.powerOn_drawBr (s : State) : s.powerOn.drawBr = State.reset.drawBr := rfl
@[simp] theorem State.powerOn_drawOfs (s : State) : s.powerOn.drawOfs = State.reset.drawOfs := rfl
@[simp] theorem State.powerOn_texflip (s : State) : s.powerOn.texflip = State.reset.texflip := rfl
@[simp] theorem State.powerOn_texdisAllow (s : State) : s.powerOn.texdisAllow = State.reset.texdisAllow := rfl
@[simp] theorem State.powerOn_dispOrigin (s : State) : s.powerOn.dispOrigin = State.reset.dispOrigin := rfl
@[simp] theorem State.powerOn_hrange (s : State) : s.powerOn.hrange = State.reset.hrange := rfl
@[simp] theorem State.powerOn_vrange (s : State) : s.powerOn.vrange = State.reset.vrange := rfl
@[simp] theorem State.powerOn_readback (s : State) : s.powerOn.readback = State.reset.readback := rfl
@[simp] theorem State.powerOn_cmdbuf (s : State) : s.powerOn.cmdbuf = State.reset.cmdbuf := rfl
@[simp] theorem State.powerOn_wmode (s : State) : s.powerOn.wmode = State.reset.wmode := rfl
@[simp] theorem State.powerOn_wcur (s : State) : s.powerOn.wcur = State.reset.wcur := rfl
@[simp] theorem State.powerOn_rmode (s : State) : s.powerOn.rmode = State.reset.rmode := rfl
@[simp] theorem State.powerOn_rcur (s : State) : s.powerOn.rcur = State.reset.rcur := rfl
@[simp] theorem State.powerOn_busycnt (s : State) : s.powerOn.busycnt = State.reset.busycnt := rfl
@[simp] theorem State.powerOn_frameskip (s : State) : s.powerOn.frameskip = State.reset.frameskip := rfl
@[simp] theorem State.powerOn_ctrlhist (s : State) : s.powerOn.ctrlhist = State.reset.ctrlhist := rfl
@[simp] theorem State.powerOn_vram (s : State) : s.powerOn.vram = ⟨s.freeCount, []⟩ := rfl
@[simp] theorem State.powerOn_out (s : State) : s.powerOn.out = State.reset.out := rfl
@[simp] theorem State.powerOn_inputs (s : State) : s.powerOn.inputs = s.inputs := rfl
@[simp] theorem State.powerOn_replies (s : State) : s.powerOn.replies = s.replies := rfl
@[simp] theorem State.powerOn_freeCount (s : State) : s.powerOn.freeCount = s.freeCount + 1 := rfl

/-! ### The texture-page write-back (R159) -/

@[simp] theorem State.texpageWriteback_cfg (s : State) (p : BitVec 16) : (s.texpageWriteback p).cfg = s.cfg := by
  unfold State.texpageWriteback; split <;> rfl
@[simp] theorem State.texpageWriteback_csr (s : State) (p : BitVec 16) : (s.texpageWriteback p).csr =
    if s.cfg.polyTexpageWriteback then csrPolyTexpage s.csr p s.texdisAllow else s.csr := by
  unfold State.texpageWriteback; split <;> rfl
@[simp] theorem State.texpageWriteback_texwin (s : State) (p : BitVec 16) : (s.texpageWriteback p).texwin = s.texwin := by
  unfold State.texpageWriteback; split <;> rfl
@[simp] theorem State.texpageWriteback_drawTl (s : State) (p : BitVec 16) : (s.texpageWriteback p).drawTl = s.drawTl := by
  unfold State.texpageWriteback; split <;> rfl
@[simp] theorem State.texpageWriteback_drawBr (s : State) (p : BitVec 16) : (s.texpageWriteback p).drawBr = s.drawBr := by
  unfold State.texpageWriteback; split <;> rfl
@[simp] theorem State.texpageWriteback_drawOfs (s : State) (p : BitVec 16) : (s.texpageWriteback p).drawOfs = s.drawOfs := by
  unfold State.texpageWriteback; split <;> rfl
@[simp] theorem State.texpageWriteback_texflip (s : State) (p : BitVec 16) : (s.texpageWriteback p).texflip = s.texflip := by
  unfold State.texpageWriteback; split <;> rfl
@[simp] theorem State.texpageWriteback_texdisAllow (s : State) (p : BitVec 16) : (s.texpageWriteback p).texdisAllow = s.texdisAllow := by
  unfold State.texpageWriteback; split <;> rfl
@[simp] theorem State.texpageWriteback_dispOrigin (s : State) (p : BitVec 16) : (s.texpageWriteback p).dispOrigin = s.dispOrigin := by
  unfold State.texpageWriteback; split <;> rfl
@[simp] theorem State.texpageWriteback_hrange (s : State) (p : BitVec 16) : (s.texpageWriteback p).hrange = s.hrange := by
  unfold State.texpageWriteback; split <;> rfl
@[simp] theorem State.texpageWriteback_vrange (s : State) (p : BitVec 16) : (s.texpageWriteback p).vrange = s.vrange := by
  unfold State.texpageWriteback; split <;> rfl
@[simp] theorem State.texpageWriteback_readback (s : State) (p : BitVec 16) : (s.texpageWriteback p).readback = s.readback := by
  unfold State.texpageWriteback; split <;> rfl
@[simp] theorem State.texpageWriteback_cmdbuf (s : State) (p : BitVec 16) : (s.texpageWriteback p).cmdbuf = s.cmdbuf := by
  unfold State.texpageWriteback; split <;> rfl
@[simp] theorem State.texpageWriteback_wmode (s : State) (p : BitVec 16) : (s.texpageWriteback p).wmode = s.wmode := by
  unfold State.texpageWriteback; split <;> rfl
@[simp] theorem State.texpageWriteback_wcur (s : State) (p : BitVec 16) : (s.texpageWriteback p).wcur = s.wcur := by
  unfold State.texpageWriteback; split <;> rfl
@[simp] theorem State.texpageWriteback_rmode (s : State) (p : BitVec 16) : (s.texpageWriteback p).rmode = s.rmode := by
  unfold State.texpageWriteback; split <;> rfl
@[simp] theorem State.texpageWriteback_rcur (s : State) (p : BitVec 16) : (s.texpageWriteback p).rcur = s.rcur := by
  unfold State.texpageWriteback; split <;> rfl
@[simp] theorem State.texpageWriteback_busycnt (s : State) (p : BitVec 16) : (s.texpageWriteback p).busycnt = s.busycnt := by
  unfold State.texpageWriteback; split <;> rfl
@[simp] theorem State.texpageWriteback_frameskip (s : State) (p : BitVec 16) : (s.texpageWriteback p).frameskip = s.frameskip := by
  unfold State.texpageWriteback; split <;> rfl
@[simp] theorem State.texpageWriteback_ctrlhist (s : State) (p : BitVec 16) : (s.texpageWriteback p).ctrlhist = s.ctrlhist := by
  unfold State.texpageWriteback; split <;> rfl
@[simp] theorem State.texpageWriteback_vram (s : State) (p : BitVec 16) : (s.texpageWriteback p).vram = s.vram := by
  unfold State.texpageWriteback; split <;> rfl
@[simp] theorem State.texpageWriteback_out (s : State) (p : BitVec 16) : (s.texpageWriteback p).out = s.out := by
  unfold State.texpageWriteback; split <;> rfl
@[simp] theorem State.texpageWriteback_inputs (s : State) (p : BitVec 16) : (s.texpageWriteback p).inputs = s.inputs := by
  unfold State.texpageWriteback; split <;> rfl
@[simp] theorem State.texpageWriteback_replies (s : State) (p : BitVec 16) : (s.texpageWriteback p).replies = s.replies := by
  unfold State.texpageWriteback; split <;> rfl
@[simp] theorem State.texpageWriteback_freeCount (s : State) (p : BitVec 16) : (s.texpageWriteback p).freeCount = s.freeCount := by
  unfold State.texpageWriteback; split <;> rfl

/-! ### `State.drawDeadWords` (U3) -/

@[simp] theorem State.drawDeadWords_cfg (s : State) (h : Handler) : (s.drawDeadWords h).cfg = s.cfg := by
  unfold State.drawDeadWords; split <;> rfl
@[simp] theorem State.drawDeadWords_csr (s : State) (h : Handler) : (s.drawDeadWords h).csr = s.csr := by
  unfold State.drawDeadWords; split <;> rfl
@[simp] theorem State.drawDeadWords_texwin (s : State) (h : Handler) : (s.drawDeadWords h).texwin = s.texwin := by
  unfold State.drawDeadWords; split <;> rfl
@[simp] theorem State.drawDeadWords_drawTl (s : State) (h : Handler) : (s.drawDeadWords h).drawTl = s.drawTl := by
  unfold State.drawDeadWords; split <;> rfl
@[simp] theorem State.drawDeadWords_drawBr (s : State) (h : Handler) : (s.drawDeadWords h).drawBr = s.drawBr := by
  unfold State.drawDeadWords; split <;> rfl
@[simp] theorem State.drawDeadWords_drawOfs (s : State) (h : Handler) : (s.drawDeadWords h).drawOfs = s.drawOfs := by
  unfold State.drawDeadWords; split <;> rfl
@[simp] theorem State.drawDeadWords_texflip (s : State) (h : Handler) : (s.drawDeadWords h).texflip = s.texflip := by
  unfold State.drawDeadWords; split <;> rfl
@[simp] theorem State.drawDeadWords_texdisAllow (s : State) (h : Handler) : (s.drawDeadWords h).texdisAllow = s.texdisAllow := by
  unfold State.drawDeadWords; split <;> rfl
@[simp] theorem State.drawDeadWords_dispOrigin (s : State) (h : Handler) : (s.drawDeadWords h).dispOrigin = s.dispOrigin := by
  unfold State.drawDeadWords; split <;> rfl
@[simp] theorem State.drawDeadWords_hrange (s : State) (h : Handler) : (s.drawDeadWords h).hrange = s.hrange := by
  unfold State.drawDeadWords; split <;> rfl
@[simp] theorem State.drawDeadWords_vrange (s : State) (h : Handler) : (s.drawDeadWords h).vrange = s.vrange := by
  unfold State.drawDeadWords; split <;> rfl
@[simp] theorem State.drawDeadWords_readback (s : State) (h : Handler) : (s.drawDeadWords h).readback = s.readback := by
  unfold State.drawDeadWords; split <;> rfl
@[simp] theorem State.drawDeadWords_cmdbuf (s : State) (h : Handler) : (s.drawDeadWords h).cmdbuf = s.cmdbuf := by
  unfold State.drawDeadWords; split <;> rfl
@[simp] theorem State.drawDeadWords_wmode (s : State) (h : Handler) : (s.drawDeadWords h).wmode = s.wmode := by
  unfold State.drawDeadWords; split <;> rfl
@[simp] theorem State.drawDeadWords_wcur (s : State) (h : Handler) : (s.drawDeadWords h).wcur = s.wcur := by
  unfold State.drawDeadWords; split <;> rfl
@[simp] theorem State.drawDeadWords_rmode (s : State) (h : Handler) : (s.drawDeadWords h).rmode = s.rmode := by
  unfold State.drawDeadWords; split <;> rfl
@[simp] theorem State.drawDeadWords_rcur (s : State) (h : Handler) : (s.drawDeadWords h).rcur = s.rcur := by
  unfold State.drawDeadWords; split <;> rfl
@[simp] theorem State.drawDeadWords_busycnt (s : State) (h : Handler) : (s.drawDeadWords h).busycnt = s.busycnt := by
  unfold State.drawDeadWords; split <;> rfl
@[simp] theorem State.drawDeadWords_frameskip (s : State) (h : Handler) : (s.drawDeadWords h).frameskip = s.frameskip := by
  unfold State.drawDeadWords; split <;> rfl
@[simp] theorem State.drawDeadWords_ctrlhist (s : State) (h : Handler) : (s.drawDeadWords h).ctrlhist = s.ctrlhist := by
  unfold State.drawDeadWords; split <;> rfl
@[simp] theorem State.drawDeadWords_vram (s : State) (h : Handler) : (s.drawDeadWords h).vram = s.vram := by
  unfold State.drawDeadWords; split <;> rfl
@[simp] theorem State.drawDeadWords_out (s : State) (h : Handler) : (s.drawDeadWords h).out = s.out := by
  unfold State.drawDeadWords; split <;> rfl
@[simp] theorem State.drawDeadWords_inputs (s : State) (h : Handler) : (s.drawDeadWords h).inputs = s.inputs := by
  unfold State.drawDeadWords; split <;> rfl
@[simp] theorem State.drawDeadWords_replies (s : State) (h : Handler) : (s.drawDeadWords h).replies = s.replies := by
  unfold State.drawDeadWords; split <;> rfl

/-- A buffer with all the words of its handler draws no free value (R243). -/
theorem State.drawDeadWords_of_le {s : State} {h : Handler} (hw : h.words ≤ s.bufcnt) : s.drawDeadWords h = s :=
  if_neg (by omega)

/-- A buffer with all the words of its handler is what the handler reads (R243). -/
theorem State.handlerWords_of_le {s : State} {h : Handler} (hw : h.words ≤ s.bufcnt) : s.handlerWords h = s.cmdbuf := by
  simp [State.handlerWords, Nat.sub_eq_zero_of_le hw]

/-- A handler has the words it reads, stored or free. -/
theorem State.length_handlerWords (s : State) (h : Handler) : (s.handlerWords h).length = max s.bufcnt h.words := by
  simp [State.handlerWords, State.bufcnt]; omega

/-- The stored words are read as they are (R248). -/
theorem State.getD_handlerWords (s : State) (h : Handler) {k : Nat} (hk : k < s.bufcnt) :
    (s.handlerWords h).getD k 0 = s.cmdbuf.getD k 0 := by
  simp only [State.handlerWords, List.getD_eq_getElem?_getD]
  rw [List.getElem?_append_left hk]

end Sys2Proof.Machine
end

