-- ==== Sys2Proof/Laws/Effect.lean ====
section
/-!
SUPPORT. Laws/Effect.lean: everything a command can do, said once. `Effect s t` lists the forms a next state takes; every meaning
answers a next state of one of them, and no meaning reads or writes the command buffer but the two control commands that clear it.
-/

namespace Sys2Proof.Machine

-- One proof at a time: the threads of proofs elaborated side by side need too much memory.
set_option Elab.async false

/-- The bits of the status register that no command but the control reset drives (R29) are the same in `v` and `v'`. -/
abbrev sameUndrivenBits (v v' : Word) : Prop := ∀ b ∈ [13, 25, 26, 28, 31], v.getLsbD b = v'.getLsbD b

/-- The forms of the state after a command. -/
inductive Effect (s : State) : State → Prop where
  /-- an unknown rendering id (R110) -/
  | silent : Effect s s
  /-- an untextured polygon, a line, a tile or a sprite (R160) -/
  | emit (r : Record) : Effect s (s.emit r)
  /-- a textured polygon (R159, R160) -/
  | texturedEmit (p : BitVec 16) (r : Record) : Effect s ((s.texpageWriteback p).emit r)
  /-- `FILL` (R201) -/
  | fill (dst : Pos) (size : Size) (c : BitVec 16) (r : Record) :
      Effect s ((s.withVram (fillRectangle s.cfg.fillXAlign16 dst size c s.vram)).emit r)
  /-- `MOVE` (R202) -/
  | move (src dst : Pos) (size : Size) (r : Record) : Effect s ((s.withVram (copyRectangle s.csr src dst size s.vram)).emit r)
  /-- `LOAD` (R204) -/
  | load (dst : Pos) (size : Size) (r : Record) :
      Effect s (State.emit { s with wcur := Cursor.start dst size, wmode := .passthrough } r)
  /-- `STORE` (R206) -/
  | store (src : Pos) (size : Size) (r : Record) :
      Effect s (State.emit { s with rcur := Cursor.start src size, rmode := .vramRead, csr := csrVrdy s.csr true } r)
  /-- an attribute-set command (R221 to R227) -/
  | setFields (v : Word) (texwin : BitVec 20) (tl br : BitVec 19) (ofs : BitVec 22) (flip : BitVec 2)
      (hv : sameUndrivenBits v s.csr) (hvrdy : Csr.vrdy v = Csr.vrdy s.csr) :
      Effect s { s with csr := v, texwin := texwin, drawTl := tl, drawBr := br, drawOfs := ofs, texflip := flip }
  /-- a control command that writes status fields, a display register, `TEXDIS_ALLOW` or `READBACK`, or nothing more (R270 to R283) -/
  | control (m : BitVec 2) (c : BitVec 6) (p : BitVec 24) (v : Word) (allow : Bool) (org : BitVec 19) (hr : BitVec 24)
      (vr : BitVec 20) (rb : Word) (hv : sameUndrivenBits v s.csr) (hvrdy : Csr.vrdy v = Csr.vrdy s.csr) :
      Effect s { s.recordControl m c p with
        csr := v, texdisAllow := allow, dispOrigin := org, hrange := hr, vrange := vr, readback := rb }
  /-- `C_CLEARFIFO` (R273) -/
  | clearFifo (m : BitVec 2) (c : BitVec 6) (p : BitVec 24) : Effect s (s.recordControl m c p).clearFifo
  /-- `C_RESET` that clears the assembler (R272) -/
  | resetAll (m : BitVec 2) (c : BitVec 6) (p : BitVec 24) (h : s.cfg.resetClearsAssembler = true) :
      Effect s (s.recordControl m c p).resetRegisters.clearFifo
  /-- `C_RESET` that does not (R272) -/
  | resetSome (m : BitVec 2) (c : BitVec 6) (p : BitVec 24) (h : s.cfg.resetClearsAssembler = false) :
      Effect s (s.recordControl m c p).resetRegisters

theorem sameUndrivenBits_refl (v : Word) : sameUndrivenBits v v := fun _ _ => rfl

theorem sameUndrivenBits_csrTexpage (v : Word) (mode : BitVec 11) (txd : Bool) : sameUndrivenBits (csrTexpage v mode txd) v := by
  intro b hb
  have : b < 32 ∧ ¬b ≤ 10 ∧ b ≠ 15 := by revert b; decide
  rw [getLsbD_csrTexpage _ _ _ this.1]; simp [this]

theorem vrdy_csrTexpage (v : Word) (mode : BitVec 11) (txd : Bool) : Csr.vrdy (csrTexpage v mode txd) = Csr.vrdy v := by
  unfold Csr.vrdy; rw [getLsbD_csrTexpage _ _ _ (by decide)]; rfl

theorem sameUndrivenBits_csrPolyTexpage (v : Word) (p : BitVec 16) (allow : Bool) :
    sameUndrivenBits (csrPolyTexpage v p allow) v := by
  intro b hb
  have : b < 32 ∧ ¬b ≤ 8 ∧ b ≠ 15 := by revert b; decide
  rw [getLsbD_csrPolyTexpage _ _ _ this.1]; simp [this]

theorem vrdy_csrPolyTexpage (v : Word) (p : BitVec 16) (allow : Bool) :
    Csr.vrdy (csrPolyTexpage v p allow) = Csr.vrdy v := by
  unfold Csr.vrdy; rw [getLsbD_csrPolyTexpage _ _ _ (by decide)]; rfl

theorem sameUndrivenBits_csrMask (v : Word) (md me : Bool) : sameUndrivenBits (csrMask v md me) v := by
  intro b hb
  have : b < 32 ∧ b ≠ 11 ∧ b ≠ 12 := by revert b; decide
  rw [getLsbD_csrMask _ _ _ this.1]; simp [this]

theorem vrdy_csrMask (v : Word) (md me : Bool) : Csr.vrdy (csrMask v md me) = Csr.vrdy v := by
  unfold Csr.vrdy; rw [getLsbD_csrMask _ _ _ (by decide)]; rfl

theorem sameUndrivenBits_setBit (v : Word) {i : Nat} (x : Bool) (hi : i ∉ [13, 25, 26, 28, 31]) :
    sameUndrivenBits (setBit v i x) v := by
  intro b hb
  have h32 : b < 32 := by revert b; decide
  rw [getLsbD_setBit _ _ _ h32, if_neg]
  rintro rfl; exact hi hb

theorem vrdy_setBit (v : Word) {i : Nat} (x : Bool) (hi : i ≠ 27) : Csr.vrdy (setBit v i x) = Csr.vrdy v := by
  unfold Csr.vrdy; rw [getLsbD_setBit _ _ _ (by decide), if_neg (Ne.symm hi)]

theorem sameUndrivenBits_csrDisplayMode (v : Word) (p : BitVec 24) : sameUndrivenBits (csrDisplayMode v p) v := by
  intro b hb
  have : b = 13 ∨ b = 25 ∨ b = 26 ∨ b = 28 ∨ b = 31 := by simpa using hb
  rcases this with rfl | rfl | rfl | rfl | rfl <;> rw [getLsbD_csrDisplayMode _ _ (by decide)] <;> rfl

theorem vrdy_csrDisplayMode (v : Word) (p : BitVec 24) : Csr.vrdy (csrDisplayMode v p) = Csr.vrdy v := by
  unfold Csr.vrdy; rw [getLsbD_csrDisplayMode _ _ (by decide)]; rfl

/-- Reading a display mode of zeros into the reset status changes nothing (R272, R280). -/
theorem csrDisplayMode_csrReset : csrDisplayMode csrReset 0 = csrReset := by decide

/-- The state after `C_RESET`. -/
theorem execCReset_eq (m : BitVec 2) (p : BitVec 24) (s : State) : execCReset m p s =
    .next (if s.cfg.resetClearsAssembler then (s.recordControl m 0 p).resetRegisters.clearFifo
      else (s.recordControl m 0 p).resetRegisters) := by
  simp only [execCReset, State.resetRegisters_csr, csrDisplayMode_csrReset]
  rfl

/-- Every command answers a next state of one of the forms of `Effect`: none faults, none is refused (R320). -/
theorem exec_effect (i : Instr) (s : State) : ∃ t, exec i s = .next t ∧ Effect s t := by
  cases i
  case cReset m p =>
    refine ⟨_, execCReset_eq m p s, ?_⟩
    split
    · rename_i h; exact .resetAll m 0 p h
    · rename_i h; exact .resetSome m 0 p (by simpa using h)
  case cClearfifo m p => exact ⟨_, rfl, .clearFifo m _ p⟩
  case cAckirq m p =>
    exact ⟨_, rfl, .control m 2 p _ s.texdisAllow s.dispOrigin s.hrange s.vrange s.readback
      (sameUndrivenBits_setBit s.csr false (by decide)) (vrdy_setBit s.csr false (by decide))⟩
  case cDispen m p =>
    exact ⟨_, rfl, .control m 3 p _ s.texdisAllow s.dispOrigin s.hrange s.vrange s.readback
      (sameUndrivenBits_setBit s.csr _ (by decide)) (vrdy_setBit s.csr _ (by decide))⟩
  case cDmadir m p =>
    refine ⟨_, rfl, .control m 4 p _ s.texdisAllow s.dispOrigin s.hrange s.vrange s.readback ?_ ?_⟩
    · intro b hb
      have : b < 32 ∧ ¬(29 ≤ b ∧ b < 31) := by revert b; decide
      rw [getLsbD_setBits _ _ _ this.1, if_neg this.2]
    · unfold Csr.vrdy; rw [getLsbD_setBits _ _ _ (by decide)]; rfl
  case cDispmode m p =>
    exact ⟨_, rfl, .control m 8 p _ s.texdisAllow s.dispOrigin s.hrange s.vrange s.readback
      (sameUndrivenBits_csrDisplayMode s.csr p) (vrdy_csrDisplayMode s.csr p)⟩
  case cDisporg m p =>
    exact ⟨_, rfl, .control m 5 p s.csr s.texdisAllow _ s.hrange s.vrange s.readback (sameUndrivenBits_refl _) rfl⟩
  case cHrange m p =>
    exact ⟨_, rfl, .control m 6 p s.csr s.texdisAllow s.dispOrigin _ s.vrange s.readback (sameUndrivenBits_refl _) rfl⟩
  case cVrange m p =>
    exact ⟨_, rfl, .control m 7 p s.csr s.texdisAllow s.dispOrigin s.hrange _ s.readback (sameUndrivenBits_refl _) rfl⟩
  case cTexdis m p =>
    exact ⟨_, rfl, .control m 9 p s.csr _ s.dispOrigin s.hrange s.vrange s.readback (sameUndrivenBits_refl _) rfl⟩
  case cGpuinfo m band p =>
    exact ⟨_, rfl, .control m (1#2 ++ band) p s.csr s.texdisAllow s.dispOrigin s.hrange s.vrange _ (sameUndrivenBits_refl _) rfl⟩
  case texpage mode td flip =>
    exact ⟨_, rfl, .setFields _ s.texwin s.drawTl s.drawBr s.drawOfs flip (sameUndrivenBits_csrTexpage s.csr mode _)
      (vrdy_csrTexpage s.csr mode _)⟩
  case texwin window =>
    exact ⟨_, rfl, .setFields s.csr window s.drawTl s.drawBr s.drawOfs s.texflip (sameUndrivenBits_refl _) rfl⟩
  case drawareaTL corner =>
    exact ⟨_, rfl, .setFields s.csr s.texwin corner s.drawBr s.drawOfs s.texflip (sameUndrivenBits_refl _) rfl⟩
  case drawareaBR corner =>
    exact ⟨_, rfl, .setFields s.csr s.texwin s.drawTl corner s.drawOfs s.texflip (sameUndrivenBits_refl _) rfl⟩
  case drawofs offset =>
    exact ⟨_, rfl, .setFields s.csr s.texwin s.drawTl s.drawBr offset s.texflip (sameUndrivenBits_refl _) rfl⟩
  case maskset md me =>
    exact ⟨_, rfl, .setFields _ s.texwin s.drawTl s.drawBr s.drawOfs s.texflip (sameUndrivenBits_csrMask s.csr md me)
      (vrdy_csrMask s.csr md me)⟩
  case irq1 =>
    exact ⟨_, rfl, .setFields _ s.texwin s.drawTl s.drawBr s.drawOfs s.texflip
      (sameUndrivenBits_setBit s.csr true (by decide)) (vrdy_setBit s.csr true (by decide))⟩
  case fill c dst size => exact ⟨_, rfl, .fill dst size (to15 c) _⟩
  case move id src dst size => exact ⟨_, rfl, .move src dst size _⟩
  case load id dst size => exact ⟨_, rfl, .load dst size _⟩
  case store id src size => exact ⟨_, rfl, .store src size _⟩
  case polyFT3 | polyFT4 | polyGT3 | polyGT4 => exact ⟨_, rfl, .texturedEmit _ _⟩
  case polyF3 | polyF4 | polyG3 | polyG4 | lineF2 | plineF | lineG2 | plineG | tile | sprt | tile1 | sprt1 | tile8 | sprt8 |
      tile16 | sprt16 => exact ⟨_, rfl, .emit _⟩
  all_goals first
    | exact ⟨_, rfl, .silent⟩
    | exact ⟨_, rfl, .control _ _ _ s.csr s.texdisAllow s.dispOrigin s.hrange s.vrange s.readback (sameUndrivenBits_refl _) rfl⟩

/-- Inversion: what the next state of a command can be. -/
theorem effect_of_exec {i : Instr} {s t : State} (h : exec i s = .next t) : Effect s t := by
  obtain ⟨u, hu, he⟩ := exec_effect i s
  rw [hu] at h
  cases h
  exact he

/-- A control command keeps the framing mode and the command buffer, or clears both (R270, R272, R273). -/
theorem exec_control_framing {i : Instr} {s t : State} (hc : i.channel = .gp1) (h : exec i s = .next t) :
    (t.wmode = s.wmode ∧ t.cmdbuf = s.cmdbuf) ∨ (t.wmode = .framing ∧ t.cmdbuf = []) := by
  cases i
  case cReset m p =>
    rw [exec, execCReset_eq] at h
    cases h
    split
    · exact .inr ⟨rfl, rfl⟩
    · exact .inl ⟨rfl, rfl⟩
  case cClearfifo m p => cases h; exact .inr ⟨rfl, rfl⟩
  all_goals first | (cases h; exact .inl ⟨rfl, rfl⟩) | exact absurd hc (by simp [Instr.channel])

/-- A rendering command neither reads nor writes the command buffer. -/
theorem exec_withCmdbuf {i : Instr} (hc : i.channel = .gp0) (s : State) (buf : List Word) :
    ∃ t, exec i s = .next t ∧ t.cmdbuf = s.cmdbuf ∧ exec i { s with cmdbuf := buf } = .next { t with cmdbuf := buf } := by
  cases i
  case polyFT3 | polyFT4 | polyGT3 | polyGT4 =>
    refine ⟨_, rfl, by simp, ?_⟩
    simp only [exec, execPolyFT3, execPolyFT4, execPolyGT3, execPolyGT4, State.texpageWriteback]
    split <;> rfl
  all_goals first | exact ⟨_, rfl, rfl, rfl⟩ | exact absurd hc (by simp [Instr.channel])

/-- So the end of `Dispatch` after a command does not depend on the words that were buffered. -/
theorem endDispatch_exec_withCmdbuf {i : Instr} (hc : i.channel = .gp0) (s : State) (buf : List Word) :
    endDispatch (exec i { s with cmdbuf := buf }) = endDispatch (exec i s) := by
  obtain ⟨t, h, -, h'⟩ := exec_withCmdbuf hc s buf
  rw [h, h']
  rfl

end Sys2Proof.Machine
end

