-- ==== Sys2Proof/Laws/Encode.lean ====
section
/-!
SUPPORT. Laws/Encode.lean: each reader undoes its encoder, what an entry of the dispatch table is and what the test of a configuration
says, and what the length rule R113 cuts off a stream.
-/

namespace Sys2Proof

-- One proof at a time: the threads of proofs elaborated side by side need too much memory.
set_option Elab.async false

/-! ### Readers undo encoders (R142) -/

/-- The low part of an append. -/
theorem extractLsb'_append_low {n m : Nat} (a : BitVec n) (b : BitVec m) : (a ++ b).extractLsb' 0 m = b := by
  apply BitVec.eq_of_getLsbD_eq
  intro i hi
  simp [BitVec.getLsbD_append, hi]

/-- The high part of an append. -/
theorem extractLsb'_append_high {n m : Nat} (a : BitVec n) (b : BitVec m) : (a ++ b).extractLsb' m n = a := by
  apply BitVec.eq_of_getLsbD_eq
  intro i hi
  simp [BitVec.getLsbD_append, hi]

/-- What an append holds above its low part. -/
theorem extractLsb'_append_shift {n m : Nat} (a : BitVec n) (b : BitVec m) (lo k : Nat) :
    (a ++ b).extractLsb' (m + lo) k = a.extractLsb' lo k := by
  apply BitVec.eq_of_getLsbD_eq
  intro i hi
  simp [BitVec.getLsbD_append, hi, show ¬m + lo + i < m by omega, show m + lo + i - m = lo + i by omega]

@[simp] theorem cmdId_encCW (id : BitVec 8) (c : BitVec 24) : cmdId (encCW id c) = id := extractLsb'_append_high id c

@[simp] theorem colour24_encCW (id : BitVec 8) (c : BitVec 24) : colour24 (encCW id c) = c := extractLsb'_append_low id c

@[simp] theorem colour24_encCol (c : Colour) : colour24 (encCol c) = c := extractLsb'_append_low 0#8 c

@[simp] theorem vtxOf_encVtx (v : Vtx) : vtxOf (encVtx v) = v := by
  have hx : (encVtx v).extractLsb' 0 11 = v.x := extractLsb'_append_low (0#5 ++ v.y ++ 0#5) v.x
  have hy : (encVtx v).extractLsb' 16 11 = v.y :=
    (extractLsb'_append_shift (0#5 ++ v.y ++ 0#5) v.x 5 11).trans
      ((extractLsb'_append_shift (0#5 ++ v.y) 0#5 0 11).trans (extractLsb'_append_low 0#5 v.y))
  rw [vtxOf, hx, hy]

@[simp] theorem sizeFieldsOf_encWH (s : Size) : sizeFieldsOf (encWH s) = s := by
  have hw : (encWH s).extractLsb' 0 10 = s.w := extractLsb'_append_low (0#7 ++ s.h ++ 0#6) s.w
  have hh : (encWH s).extractLsb' 16 9 = s.h :=
    (extractLsb'_append_shift (0#7 ++ s.h ++ 0#6) s.w 6 9).trans
      ((extractLsb'_append_shift (0#7 ++ s.h) 0#6 0 9).trans (extractLsb'_append_low 0#7 s.h))
  rw [sizeFieldsOf, hw, hh]

@[simp] theorem posOf_encPos (p : Pos) : posOf (encPos p) = p := by
  have hx : (encPos p).extractLsb' 0 10 = p.x := extractLsb'_append_low (0#7 ++ p.y ++ 0#6) p.x
  have hy : (encPos p).extractLsb' 16 9 = p.y :=
    (extractLsb'_append_shift (0#7 ++ p.y ++ 0#6) p.x 6 9).trans
      ((extractLsb'_append_shift (0#7 ++ p.y) 0#6 0 9).trans (extractLsb'_append_low 0#7 p.y))
  rw [posOf, hx, hy]

@[simp] theorem uvOf_encUv (hi : BitVec 16) (t : Uv) : uvOf (encUv hi t) = t := by
  have hu : (encUv hi t).extractLsb' 0 8 = t.u := extractLsb'_append_low (hi ++ t.v) t.u
  have hv : (encUv hi t).extractLsb' 8 8 = t.v :=
    (extractLsb'_append_shift (hi ++ t.v) t.u 0 8).trans (extractLsb'_append_low hi t.v)
  rw [uvOf, hu, hv]

@[simp] theorem highHalf_encUv (hi : BitVec 16) (t : Uv) : highHalf (encUv hi t) = hi :=
  (extractLsb'_append_shift (hi ++ t.v) t.u 8 16).trans (extractLsb'_append_high hi t.v)

/-- A terminator has bit 30 set (R140). -/
theorem bit30_of_isTerm {w : Word} (h : isTerm w = true) : w.getLsbD 30 = true := by
  have := congrArg (fun w => w.getLsbD 30) (eq_of_beq h)
  simp only [BitVec.getLsbD_and] at this
  rw [show (0xF000F000#32).getLsbD 30 = true from rfl, show (0x50005000#32).getLsbD 30 = true from rfl] at this
  simpa using this

/-- A word whose top byte is zero but for bits 26:24 is no terminator. -/
theorem isTerm_eq_false {w : Word} (h : w.extractLsb' 27 5 = 0#5) : isTerm w = false := by
  cases ht : isTerm w
  · rfl
  · have h3 := congrArg (fun w => w.getLsbD 3) h
    simp only [BitVec.getLsbD_extractLsb'] at h3
    rw [show (27 + 3 : Nat) = 30 from rfl, bit30_of_isTerm ht] at h3
    cases h3

/-- A vertex word with its ignored bits zero is no terminator (R140). -/
@[simp] theorem isTerm_encVtx (v : Vtx) : isTerm (encVtx v) = false :=
  isTerm_eq_false ((extractLsb'_append_shift (0#5 ++ v.y ++ 0#5) v.x 16 5).trans
    ((extractLsb'_append_shift (0#5 ++ v.y) 0#5 11 5).trans (extractLsb'_append_high 0#5 v.y)))

/-- A colour word with its ignored bits zero is no terminator (R140). -/
@[simp] theorem isTerm_encCol (c : Colour) : isTerm (encCol c) = false :=
  isTerm_eq_false ((extractLsb'_append_shift 0#8 c 3 5).trans (by decide))

@[simp] theorem isTerm_termWord : isTerm termWord = true := by decide

@[simp] theorem isTerm_zero : isTerm 0#32 = false := by decide

/-! ### The dispatch table -/

theorem Config.length_table (c : Config) : c.table.length = 256 := by
  unfold Config.table; split <;> simp

/-- `DISPATCH[id]`: the entry of the parameter, or of the first id of its mirror range (R108). -/
theorem Config.entry_eq (c : Config) (id : BitVec 8) : c.entry id =
    if c.transferMirrors = true ∧ 0x81 ≤ id.toNat ∧ id.toNat ≤ 0x9F then c.dispatch[0x80]
    else if c.transferMirrors = true ∧ 0xA1 ≤ id.toNat ∧ id.toNat ≤ 0xBF then c.dispatch[0xA0]
    else if c.transferMirrors = true ∧ 0xC1 ≤ id.toNat ∧ id.toNat ≤ 0xDF then c.dispatch[0xC0]
    else c.dispatch[id.toNat]'id.isLt := by
  have h := id.isLt
  unfold Config.entry Config.table
  split <;> rename_i hm
  · simp [List.getD_eq_getElem?_getD, h, hm]
  · simp [List.getD_eq_getElem?_getD, h, hm]

/-- Without the mirrors the entry of an id is the parameter's. -/
theorem Config.entry_of_not_mirrors {c : Config} (h : c.transferMirrors = false) (id : BitVec 8) :
    c.entry id = c.dispatch[id.toNat]'id.isLt := by
  simp [Config.entry_eq, h]

/-- Every entry looked up is one of the parameter's. -/
theorem Config.entry_mem (c : Config) (id : BitVec 8) : c.entry id ∈ c.dispatch.toList := by
  rw [Config.entry_eq]
  split_ifs <;> simp

/-- The test of R8, spelt out. -/
theorem Config.tableWf_iff (c : Config) : c.tableWf = true ↔ ∀ e, some e ∈ c.dispatch.toList →
    (∀ n, e.length = .fixed n → 1 ≤ n ∧ n ≤ 256) ∧
      (e.length = .varF ∨ e.length = .varG → e.handler ∈ [Handler.lineF2, .plineF, .lineG2, .plineG]) := by
  have hwf : ∀ e : DispatchEntry, e.wf = true ↔ (∀ n, e.length = .fixed n → 1 ≤ n ∧ n ≤ 256) ∧
      (e.length = .varF ∨ e.length = .varG → e.handler ∈ [Handler.lineF2, .plineF, .lineG2, .plineG]) := by
    rintro ⟨l, h⟩
    cases l <;> simp [DispatchEntry.wf, Handler.isLine]
  simp only [Config.tableWf, List.all_eq_true]
  constructor
  · intro h e he
    exact (hwf e).1 (by simpa using h _ he)
  · intro h e he
    cases e with
    | none => rfl
    | some e => exact (hwf e).2 (h e he)

/-- The test of U16, spelt out. -/
theorem Config.skipWf_iff (c : Config) : c.skipWf = true ↔ ∀ id e, c.skipLo ≤ id → id ≤ c.skipHi → c.entry id = some e →
    e.handler.lasting = false := by
  simp only [Config.skipWf, List.all_eq_true, Prod.forall]
  constructor
  · intro h id e hlo hhi he
    have hm : (some e, id.toNat) ∈ c.table.zipIdx := by
      rw [List.mem_zipIdx_iff_getElem?]
      have hl : id.toNat < c.table.length := by rw [Config.length_table]; exact id.isLt
      rw [Config.entry, List.getD_eq_getElem?_getD, List.getElem?_eq_getElem hl] at he
      rw [List.getElem?_eq_getElem hl]
      simpa using he
    have := h _ _ hm
    simpa [Config.skippable, hlo, hhi] using this
  · intro h e n hm
    rw [List.mem_zipIdx_iff_getElem?] at hm
    obtain ⟨hn, he⟩ := List.getElem?_eq_some_iff.1 hm
    rw [Config.length_table] at hn
    cases e with
    | none => rfl
    | some e =>
      have hid : (BitVec.ofNat 8 n).toNat = n := by simp; omega
      have hent : c.entry (BitVec.ofNat 8 n) = some e := by
        simp only [Config.entry, hid, List.getD_eq_getElem?_getD] at hm ⊢
        rw [hm]; rfl
      by_cases hs : c.skippable (BitVec.ofNat 8 n) = true
      · have : c.skipLo ≤ BitVec.ofNat 8 n ∧ BitVec.ofNat 8 n ≤ c.skipHi := by
          simpa only [Config.skippable, Bool.and_eq_true, decide_eq_true_eq] using hs
        simp [h _ e this.1 this.2 hent]
      · simp [hs]

/-- In an accepted configuration every entry has at least one word (R8). -/
theorem Config.max_pos {c : Config} (hc : c.wf = true) {id : BitVec 8} {e : DispatchEntry} (h : c.entry id = some e) :
    0 < e.length.max := by
  have hw := (Bool.and_eq_true_iff.1 hc).1
  have := (Config.tableWf_iff c).1 hw e (h ▸ Config.entry_mem c id)
  cases hl : e.length with
  | fixed n => exact (this.1 n hl).1
  | varF => decide
  | varG => decide

/-- In an accepted configuration no command with a lasting effect is skippable (U16). -/
theorem Config.not_lasting {c : Config} (hc : c.wf = true) {id : BitVec 8} {e : DispatchEntry} (h : c.entry id = some e)
    (hs : c.skippable id = true) : e.handler.lasting = false := by
  have hk := (Bool.and_eq_true_iff.1 hc).2
  have : c.skipLo ≤ id ∧ id ≤ c.skipHi := by
    simpa only [Config.skippable, Bool.and_eq_true, decide_eq_true_eq] using hs
  exact (Config.skipWf_iff c).1 hk id e this.1 this.2 h

theorem Config.maxLen_eq {c : Config} {id : BitVec 8} {e : DispatchEntry} (h : c.entry id = some e) :
    c.maxLen id = e.length.max := by
  simp [Config.maxLen, h]

theorem Config.selects_iff {c : Config} {id : BitVec 8} {h : Handler} :
    c.selects id h = true ↔ c.entry id = some ⟨h.length, h⟩ := by
  simp [Config.selects]

/-- An id that the table gives a handler shows that the table reaches it. -/
theorem Config.reaches_of_entry {c : Config} {id : BitVec 8} {h : Handler} (he : c.entry id = some ⟨h.length, h⟩) :
    c.reaches h = true := by
  have hl : id.toNat < c.table.length := by rw [Config.length_table]; exact id.isLt
  rw [Config.entry, List.getD_eq_getElem?_getD, List.getElem?_eq_getElem hl, Option.getD_some] at he
  rw [Config.reaches, List.contains_iff_mem, ← he]
  exact List.getElem_mem hl

/-- A handler that the table reaches is that of the id the encoder takes for it. -/
theorem Config.entry_idOf {c : Config} {h : Handler} (hr : c.reaches h = true) :
    c.entry (c.idOf h) = some ⟨h.length, h⟩ := by
  rw [Config.reaches, List.contains_iff_mem] at hr
  have hl : c.table.findIdx (· == some ⟨h.length, h⟩) < c.table.length :=
    List.findIdx_lt_length.2 ⟨_, hr, by simp⟩
  have hp := List.findIdx_getElem (w := hl)
  have h256 := Config.length_table c
  rw [Config.entry, Config.idOf, BitVec.toNat_ofNat, Nat.mod_eq_of_lt (by omega), List.getD_eq_getElem?_getD,
    List.getElem?_eq_getElem hl, Option.getD_some]
  exact eq_of_beq hp

/-- The default configuration is accepted. -/
theorem Config.default_wf : Config.default.wf = true := by decide +kernel

/-- The default configuration with the mirrors is accepted. -/
theorem Config.default_mirrors_wf : { Config.default with transferMirrors := true }.wf = true := by decide +kernel

/-- The rows of R108 follow one another without a gap, from 0x00 to 0xFF. -/
theorem dispatchRows_contiguous :
    (dispatchRows.map (·.lo)) = 0 :: (dispatchRows.map (·.hi + 1)).dropLast ∧ dispatchRows.getLast?.map (·.hi) = some 0xFF := by
  decide

/-- The entry of an id in the default table is that of its row of R108. -/
theorem default_entry (id : BitVec 8) : Config.default.entry id =
    (dispatchRows.find? fun r => r.lo ≤ id.toNat && id.toNat ≤ r.hi).bind (·.entry) := by
  revert id; decide +kernel

/-- The ids with an unknown mnemonic are those that R108 leaves unknown (R110). -/
theorem unknownInstr_isSome_iff (id : BitVec 8) : (unknownInstr id).isSome = (Config.default.entry id).isNone := by
  revert id; decide +kernel

/-! ### Where a command ends -/

/-- A word that does not complete leaves room for the next (R243, R254). -/
theorem lt_max_of_checkComplete_none {l : LengthClass} {k : Nat} {w : Word} (hk : k < l.max)
    (h : checkComplete l k w = none) : k + 1 < l.max := by
  cases l <;> simp only [checkComplete, LengthClass.max] at * <;> (repeat' split at h) <;> simp_all <;> omega

/-- Words none of which completes are all taken before the rest of the stream. -/
theorem frame_append {l : LengthClass} {k : Nat} {ws tail : List Word}
    (h : ∀ i (hi : i < ws.length), checkComplete l (k + i) ws[i] = none) :
    frame l k (ws ++ tail) = (frame l (k + ws.length) tail).map fun r => (ws ++ r.1, r.2) := by
  induction ws generalizing k with
  | nil => simp
  | cons w ws ih =>
    have h0 := h 0 (by simp)
    simp only [Nat.add_zero, List.getElem_cons_zero] at h0
    rw [List.cons_append, frame, h0]
    simp only
    rw [ih fun i hi => by
      have := h (i + 1) (by simpa using hi)
      rwa [List.getElem_cons_succ, show k + (i + 1) = k + 1 + i by omega] at this]
    rw [List.length_cons, show k + (ws.length + 1) = k + 1 + ws.length by omega]
    cases frame l (k + 1 + ws.length) tail <;> rfl

/-- A word that completes ends the command. -/
theorem frame_of_complete {l : LengthClass} {k : Nat} {w : Word} {rest : List Word} {t : Bool}
    (h : checkComplete l k w = some t) : frame l k (w :: rest) = some ([w], t, rest) := by
  rw [frame, h]

/-- A fixed length takes exactly its number of words, whatever they are (R113). -/
theorem frame_fixed {n k : Nat} {ws rest : List Word} (hk : k < n) (h : k + ws.length = n) :
    frame (.fixed n) k (ws ++ rest) = some (ws, false, rest) := by
  induction ws generalizing k with
  | nil => simp at h; omega
  | cons w ws ih =>
    rw [List.cons_append, frame]
    simp only [List.length_cons] at h
    by_cases hl : k + 1 = n
    · have : ws = [] := List.eq_nil_of_length_eq_zero (by omega)
      simp [checkComplete, hl, this]
    · simp only [checkComplete, if_neg hl]
      rw [ih (by omega) (by omega)]

/-- What a frame takes and what it leaves make up the stream. -/
theorem frame_some_append {l : LengthClass} {k : Nat} {stream ws rest : List Word} {t : Bool}
    (h : frame l k stream = some (ws, t, rest)) : stream = ws ++ rest ∧ ws ≠ [] := by
  induction stream generalizing k ws with
  | nil => simp [frame] at h
  | cons w stream ih =>
    rw [frame] at h
    split at h
    · simp only [Option.some.injEq, Prod.mk.injEq] at h
      obtain ⟨rfl, -, rfl⟩ := h
      simp
    · split at h
      · rename_i hf
        simp only [Option.some.injEq, Prod.mk.injEq] at h
        obtain ⟨rfl, rfl, rfl⟩ := h
        simp [(ih hf).1]
      · cases h

/-- The vertices of a mono poly-line are all taken. -/
theorem checkComplete_varF_none {k : Nat} {w : Word} (ht : k < 3 ∨ isTerm w = false) (hk : k ≠ 253) :
    checkComplete .varF k w = none := by
  have : termF k w = false := by rcases ht with h | h <;> simp [termF, h]
  simp [checkComplete, this]; omega

/-- The words of a shaded poly-line that are vertices, or colours but no terminator, are all taken. -/
theorem checkComplete_varG_none {k : Nat} {w : Word} (ht : k < 4 ∨ k % 2 = 1 ∨ isTerm w = false) (hk : k ≠ 254) :
    checkComplete .varG k w = none := by
  have : termG k w = false := by rcases ht with h | h | h <;> simp [termG, h]
  simp [checkComplete, this]; omega

/-! ### The control channel -/

/-- The command of a control word, from the row of its canonical id (R271). -/
theorem decodeGP1_eq {w : Word} {k : BitVec 8} {f : ControlRow} (hk : canonical (cmdId w) = k)
    (hf : controlRows[k.toNat]? = some f) : decodeGP1 w = f (w.extractLsb' 30 2) (w.extractLsb' 24 4) (colour24 w) := by
  subst hk
  rw [List.getElem?_eq_getElem (canonical_lt (cmdId w)), Option.some.injEq] at hf
  rw [decodeGP1, hf]

/-- The id of a control word with mirror bits `m` and canonical id `c` (R111). -/
@[simp] theorem cmdId_encControl (m : BitVec 2) (c : BitVec 6) (p : BitVec 24) : cmdId (encControl m c p) = m ++ c :=
  extractLsb'_append_high (m ++ c) p

@[simp] theorem mirror_encControl (m : BitVec 2) (c : BitVec 6) (p : BitVec 24) :
    (encControl m c p).extractLsb' 30 2 = m :=
  (extractLsb'_append_shift (m ++ c) p 6 2).trans (extractLsb'_append_high m c)

@[simp] theorem colour24_encControl (m : BitVec 2) (c : BitVec 6) (p : BitVec 24) : colour24 (encControl m c p) = p :=
  extractLsb'_append_low (m ++ c) p

/-- Bits 27:24 of a control word. -/
theorem band_encControl (m : BitVec 2) (c : BitVec 6) (p : BitVec 24) :
    (encControl m c p).extractLsb' 24 4 = c.extractLsb' 0 4 := by
  refine (extractLsb'_append_shift (m ++ c) p 0 4).trans ?_
  revert m c; decide +kernel

/-- The canonical id of a control word does not depend on its mirror bits (R271). -/
theorem canonical_mirror : ∀ (m : BitVec 2) (c : BitVec 6),
    canonical (m ++ c) = if 0x10#6 ≤ c ∧ c ≤ 0x1F#6 then 0x10#8 else 0#2 ++ c := by decide +kernel

/-! ### The operand bits of an id (R109) -/

theorem cmdId_bit0 (w : Word) : (cmdId w).getLsbD 0 = w.getLsbD 24 := by simp [cmdId]
theorem cmdId_bit1 (w : Word) : (cmdId w).getLsbD 1 = w.getLsbD 25 := by simp [cmdId]
theorem cmdId_bit2 (w : Word) : (cmdId w).getLsbD 2 = w.getLsbD 26 := by simp [cmdId]

/-- An id is its two parts. -/
@[simp] theorem idHigh_append_idLow (w : Word) : idHigh w ++ idLow w = cmdId w := by
  apply BitVec.eq_of_getLsbD_eq
  intro i hi
  rw [BitVec.getLsbD_append]
  by_cases h : i < 2
  · simp [h, idLow, cmdId, show i < 8 by omega]
  · simp [h, idHigh, cmdId, hi, show i - 2 < 6 by omega, show 26 + (i - 2) = 24 + i by omega]

/-- Bits 1 and 0 of an id, as the two parts of a line's. -/
theorem ofBool_bits_idLow (w : Word) : BitVec.ofBool (w.getLsbD 25) ++ BitVec.ofBool (w.getLsbD 24) = idLow w := by
  have h : ∀ l : BitVec 2, BitVec.ofBool (l.getLsbD 1) ++ BitVec.ofBool (l.getLsbD 0) = l := by decide
  have := h (idLow w)
  simpa [idLow] using this

/-- The id of a line is that of its first word. -/
theorem lineId_eq_cmdId (w : Word) : lineId (idHigh w) (w.getLsbD 25) (w.getLsbD 24) = cmdId w := by
  rw [lineId, ofBool_bits_idLow, idHigh_append_idLow]

@[simp] theorem lineId_getElem (w : Word) : lineId (idHigh w) w[25] w[24] = cmdId w := lineId_eq_cmdId w

@[simp] theorem idHigh_encCW (h : BitVec 6) (l : BitVec 2) (c : BitVec 24) : idHigh (encCW (h ++ l) c) = h :=
  (extractLsb'_append_shift (h ++ l) c 2 6).trans (extractLsb'_append_high h l)

@[simp] theorem idLow_encCW (h : BitVec 6) (l : BitVec 2) (c : BitVec 24) : idLow (encCW (h ++ l) c) = l :=
  (extractLsb'_append_shift (h ++ l) c 0 2).trans (extractLsb'_append_low h l)

@[simp] theorem idHigh_encCW_lineId (h : BitVec 6) (semi b0 : Bool) (c : BitVec 24) :
    idHigh (encCW (lineId h semi b0) c) = h := idHigh_encCW h _ c

theorem bit25_encCW_lineId (h : BitVec 6) (semi b0 : Bool) (c : BitVec 24) :
    (encCW (lineId h semi b0) c).getLsbD 25 = semi := by
  have := cmdId_bit1 (encCW (lineId h semi b0) c)
  rw [cmdId_encCW] at this
  rw [← this]; simp only [lineId, BitVec.getLsbD_append]; cases semi <;> cases b0 <;> rfl

theorem bit24_encCW_lineId (h : BitVec 6) (semi b0 : Bool) (c : BitVec 24) :
    (encCW (lineId h semi b0) c).getLsbD 24 = b0 := by
  have := cmdId_bit0 (encCW (lineId h semi b0) c)
  rw [cmdId_encCW] at this
  rw [← this]; simp only [lineId, BitVec.getLsbD_append]; cases semi <;> cases b0 <;> rfl

@[simp] theorem getElem25_encCW_lineId (h : BitVec 6) (semi b0 : Bool) (c : BitVec 24) :
    (encCW (lineId h semi b0) c)[25] = semi := bit25_encCW_lineId h semi b0 c

@[simp] theorem getElem24_encCW_lineId (h : BitVec 6) (semi b0 : Bool) (c : BitVec 24) :
    (encCW (lineId h semi b0) c)[24] = b0 := bit24_encCW_lineId h semi b0 c

/-- A word is its id and its operand. -/
theorem cmdId_append_colour24 (w : Word) : cmdId w ++ colour24 w = w := by
  apply BitVec.eq_of_getLsbD_eq
  intro i hi
  have : (cmdId w ++ colour24 w).getLsbD i = w.getLsbD i := by
    rw [BitVec.getLsbD_append]
    by_cases h : i < 24
    · simp [h, colour24]
    · simp [h, cmdId, show 24 + (i - 24) = i by omega]; omega
  exact this

/-! ### Poly-line words -/

theorem length_encPairs (cvs : List (Colour × Vtx)) : (encPairs cvs).length = 2 * cvs.length := by
  induction cvs with
  | nil => rfl
  | cons p cvs ih =>
    obtain ⟨c, v⟩ := p
    simp [encPairs, ih]; omega

/-- No word of the pairs is a terminator. -/
theorem isTerm_of_mem_encPairs (cvs : List (Colour × Vtx)) : ∀ w ∈ encPairs cvs, isTerm w = false := by
  induction cvs with
  | nil => simp [encPairs]
  | cons p cvs ih =>
    obtain ⟨c, v⟩ := p
    simpa [encPairs] using ih

/-- The pairs of a shaded poly-line, and a last word that is in none of them. -/
theorem colourVertexPairs_encPairs (cvs : List (Colour × Vtx)) (w : Word) :
    colourVertexPairs (encPairs cvs ++ [w]) = cvs := by
  induction cvs with
  | nil => rfl
  | cons p cvs ih =>
    obtain ⟨c, v⟩ := p
    simp [encPairs, colourVertexPairs, ih]

/-- The pairs of any words: colour `k` from word `2k`, vertex `k` from word `2k + 1` (R174). -/
theorem colourVertexPairs_eq (ws : List Word) : colourVertexPairs ws =
    (List.range (ws.length / 2)).map fun k => (colour24 (ws.getD (2 * k) 0), vtxOf (ws.getD (2 * k + 1) 0)) := by
  induction ws using colourVertexPairs.induct with
  | case1 c v rest ih =>
    rw [colourVertexPairs, ih, List.length_cons, List.length_cons,
      show (rest.length + 1 + 1) / 2 = rest.length / 2 + 1 by omega, List.range_succ_eq_map]
    simp [Function.comp_def, Nat.mul_add]
  | case2 ws h =>
    match ws, h with
    | [], _ => rfl
    | [a], _ => simp [colourVertexPairs]
    | a :: b :: r, h => exact absurd rfl (h a b r)

/-! ### Decoding one command -/

/-- A known command is decoded from the words its length takes, when its handler reads no more. -/
theorem decodeGP0_of_frame {c : Config} {stream ws rest : List Word} {e : DispatchEntry} {t : Bool}
    (he : c.entry (cmdId (stream.headD 0)) = some e) (hf : frame e.length 0 stream = some (ws, t, rest))
    (hw : e.handler.words ≤ ws.length) : decodeGP0 c stream = .ok (assemble e.handler t ws, rest) := by
  cases stream with
  | nil => simp [frame] at hf
  | cons w stream =>
    simp only [List.headD_cons] at he
    simp only [decodeGP0, he, hf, if_pos hw]

/-- A command of a fixed length is decoded from its words, whatever follows them. -/
theorem decodeGP0_fixed {c : Config} {n : Nat} {h : Handler} {w : Word} {ws rest : List Word}
    (he : c.entry (cmdId w) = some ⟨.fixed n, h⟩) (hn : (w :: ws).length = n) (hw : h.words ≤ n) :
    decodeGP0 c (w :: ws ++ rest) = .ok (assemble h false (w :: ws), rest) := by
  have hf := frame_fixed (n := n) (k := 0) (ws := w :: ws) (rest := rest) (by simp at hn; omega) (by omega)
  exact decodeGP0_of_frame (e := ⟨.fixed n, h⟩) he hf (by rw [hn]; exact hw)

/-- A command of an unknown id is its one word. -/
theorem decodeGP0_unknown {c : Config} {w : Word} {rest : List Word} {i : Instr} (he : c.entry (cmdId w) = none)
    (hi : unknownInstr (cmdId w) = some i) : decodeGP0 c (w :: rest) = .ok (i, rest) := by
  simp only [decodeGP0, he, hi]

end Sys2Proof
end

