-- ==== Sys2Proof/Laws/Assembler.lean ====
section
/-!
SUPPORT. Laws/Assembler.lean: what one word on the rendering channel does, what a stream of them does, and what a step is.
-/

namespace Sys2Proof.Machine

-- One proof at a time: the threads of proofs elaborated side by side need too much memory.
set_option Elab.async false

/-! ### Sequences of port operations -/

@[simp] theorem portSteps_nil (s : State) : portSteps [] s = .next s := rfl

theorem portSteps_cons_next {op : PortOp} {ops : List PortOp} {s t : State} (h : portStep op s = .next t) :
    portSteps (op :: ops) s = portSteps ops t := by
  rw [portSteps, h]

theorem portSteps_singleton (op : PortOp) (s : State) : portSteps [op] s = portStep op s := by
  rw [portSteps]
  cases portStep op s <;> rfl

theorem portSteps_append_next {ops ops' : List PortOp} {s t : State} (h : portSteps ops s = .next t) :
    portSteps (ops ++ ops') s = portSteps ops' t := by
  induction ops generalizing s with
  | nil => cases h; rfl
  | cons op ops ih =>
    rw [List.cons_append, portSteps]
    rw [portSteps] at h
    cases hs : portStep op s with
    | next u => rw [hs] at h; exact ih h
    | fault f => rw [hs] at h; cases h
    | refused r => rw [hs] at h; cases h

/-! ### Steps -/

theorem step_of_wf {s : State} (h : s.cfg.wf = true) : step s = nextPort s := if_pos h

/-- A step with an operation pending is that port operation. -/
theorem step_of_inputs {s : State} (h : s.cfg.wf = true) {op : PortOp} {rest : List PortOp} (hi : s.inputs = op :: rest) :
    step s = portStep op { s with inputs := rest } := by
  rw [step_of_wf h, nextPort, hi]

/-! ### One word -/

/-- In framing mode the next word of a command is stored, when its id has an entry and the buffer has room (R242, R243). -/
theorem writeGP0_eq_bufferWord {s : State} {w : Word} {e : DispatchEntry} (hm : s.wmode = .framing)
    (he : s.cfg.entry (cmdId ((s.cmdbuf ++ [w]).headD 0)) = some e)
    (hb : s.bufcnt < e.length.max) : writeGP0 w s = bufferWord e w s := by
  rw [writeGP0, hm]
  cases hc : s.cmdbuf with
  | nil =>
    rw [hc] at he
    simp only [List.nil_append, List.headD_cons] at he
    simp only [firstWord, he]
  | cons w0 ws =>
    rw [hc] at he
    simp only [List.cons_append, List.headD_cons] at he
    simp only [nextWord, he, if_pos hb]

theorem mem_of_lookup {n : Nat} {i : Instr} {rows : List (Nat × Instr)} (h : rows.lookup n = some i) : (n, i) ∈ rows := by
  induction rows with
  | nil => cases h
  | cons r rows ih =>
    obtain ⟨k, j⟩ := r
    rw [List.lookup_cons] at h
    split at h
    · rename_i hk
      cases h
      rw [eq_of_beq hk]
      exact List.mem_cons_self ..
    · exact List.mem_cons_of_mem _ (ih h)

/-- The command of an unknown id changes nothing (R110). -/
theorem exec_of_unknownInstr {id : BitVec 8} {i : Instr} (h : unknownInstr id = some i) (s : State) : exec i s = .next s := by
  have hm := List.mem_map_of_mem (f := Prod.snd) (mem_of_lookup h)
  have : ∀ i ∈ (unknownRowsLow ++ unknownRowsMiddle ++ unknownRowsHigh).map Prod.snd, exec i s = .next s := by
    simp only [unknownRowsLow, unknownRowsMiddle, unknownRowsHigh, List.map_append, List.map_cons, List.map_nil,
      List.forall_mem_append, List.forall_mem_cons, List.not_mem_nil, false_implies, implies_true, and_true]
    repeat' apply And.intro
    all_goals rfl
  exact this _ hm

/-- A first word of an id with no entry is discarded (R242). -/
theorem writeGP0_of_unknown {s : State} {w : Word} (hm : s.wmode = .framing) (hc : s.cmdbuf = [])
    (he : s.cfg.entry (cmdId w) = none) : writeGP0 w s = .next s := by
  rw [writeGP0, hm, hc]
  simp only [firstWord, he]
  split
  · exact exec_of_unknownInstr (by assumption) s
  · rfl

/-! ### A stream of words -/

/-- Feeding the words a frame takes dispatches them once, at the last one (R242 to R244). -/
theorem portSteps_feed_frame {s : State} {e : DispatchEntry} {ws : List Word} {t : Bool} (hm : s.wmode = .framing)
    (he : s.cfg.entry (cmdId ((s.cmdbuf ++ ws).headD 0)) = some e)
    (hb : s.bufcnt < e.length.max) (hf : frame e.length s.bufcnt ws = some (ws, t, [])) :
    portSteps (feedGP0 ws) s = dispatchBuffer e.handler t { s with cmdbuf := s.cmdbuf ++ ws } := by
  induction ws generalizing s with
  | nil => simp [frame] at hf
  | cons w ws ih =>
    have he' : s.cfg.entry (cmdId ((s.cmdbuf ++ [w]).headD 0)) = some e := by
      cases hc : s.cmdbuf <;> simpa [hc] using he
    have hw : portStep (.writeGP0 w) s = bufferWord e w s := writeGP0_eq_bufferWord hm he' hb
    rw [frame] at hf
    cases hk : checkComplete e.length s.bufcnt w with
    | some t' =>
      simp only [hk, Option.some.injEq, Prod.mk.injEq, List.cons.injEq] at hf
      obtain ⟨⟨-, h1⟩, rfl, -⟩ := hf
      subst h1
      rw [feedGP0, List.map_cons, List.map_nil, portSteps_singleton, hw, bufferWord]
      simp only [hk]
    | none =>
      simp only [hk] at hf
      cases hr : frame e.length (s.bufcnt + 1) ws with
      | none => simp [hr] at hf
      | some r =>
        obtain ⟨ws', t', after⟩ := r
        simp only [hr, Option.some.injEq, Prod.mk.injEq, List.cons.injEq] at hf
        obtain ⟨⟨-, rfl⟩, rfl, rfl⟩ := hf
        have hnext : portStep (.writeGP0 w) s = .next { s with cmdbuf := s.cmdbuf ++ [w] } := by
          rw [hw, bufferWord]; simp only [hk]
        rw [feedGP0, List.map_cons, portSteps_cons_next hnext]
        have hcnt : State.bufcnt { s with cmdbuf := s.cmdbuf ++ [w] } = s.bufcnt + 1 := by simp [State.bufcnt]
        have := ih (s := { s with cmdbuf := s.cmdbuf ++ [w] }) hm
          (by simpa using he) (by rw [hcnt]; exact lt_max_of_checkComplete_none hb hk) (by rw [hcnt]; exact hr)
        rw [feedGP0] at this
        rw [this]
        simp

/-- Feeding words none of which completes only buffers them (R243, R244). -/
theorem portSteps_feed_prefix {s : State} {e : DispatchEntry} {ws : List Word} (hm : s.wmode = .framing)
    (he : ws ≠ [] → s.cfg.entry (cmdId ((s.cmdbuf ++ ws).headD 0)) = some e)
    (hb : s.bufcnt < e.length.max)
    (hn : ∀ i (hi : i < ws.length), checkComplete e.length (s.bufcnt + i) ws[i] = none) :
    portSteps (feedGP0 ws) s = .next { s with cmdbuf := s.cmdbuf ++ ws } := by
  induction ws generalizing s with
  | nil => simp [feedGP0]
  | cons w ws ih =>
    have he := he (by simp)
    have he' : s.cfg.entry (cmdId ((s.cmdbuf ++ [w]).headD 0)) = some e := by
      cases hc : s.cmdbuf <;> simpa [hc] using he
    have h0 : checkComplete e.length s.bufcnt w = none := hn 0 (by simp)
    have hnext : portStep (.writeGP0 w) s = .next { s with cmdbuf := s.cmdbuf ++ [w] } := by
      show writeGP0 w s = _
      rw [writeGP0_eq_bufferWord hm he' hb, bufferWord]; simp only [h0]
    rw [feedGP0, List.map_cons, portSteps_cons_next hnext]
    have hcnt : State.bufcnt { s with cmdbuf := s.cmdbuf ++ [w] } = s.bufcnt + 1 := by simp [State.bufcnt]
    have := ih (s := { s with cmdbuf := s.cmdbuf ++ [w] }) hm (fun _ => by simpa using he)
      (by rw [hcnt]; exact lt_max_of_checkComplete_none hb h0)
      (fun i hi => by
        rw [hcnt]
        have := hn (i + 1) (by simpa using hi)
        rwa [List.getElem_cons_succ, show s.bufcnt + (i + 1) = s.bufcnt + 1 + i by omega] at this)
    rw [feedGP0] at this
    rw [this]
    simp

/-! ### Dispatch -/

/-- Without frame skip, dispatch is the command that the handler reads and then its end (R248). -/
theorem dispatchBuffer_of_not_skipped {h : Handler} {t : Bool} {s : State}
    (hs : (s.frameskip && s.cfg.skippable (cmdId (s.cmdbuf.headD 0))) = false) :
    dispatchBuffer h t s = endDispatch (exec (assemble h t (s.handlerWords h)) (s.drawDeadWords h)) := by
  rw [dispatchBuffer, hs]
  rfl

/-- With all the words of its handler stored, that command is the one the buffer assembles to (R243, R248). -/
theorem dispatchBuffer_of_le {h : Handler} {t : Bool} {s : State}
    (hs : (s.frameskip && s.cfg.skippable (cmdId (s.cmdbuf.headD 0))) = false) (hw : h.words ≤ s.bufcnt) :
    dispatchBuffer h t s = endDispatch (exec (assemble h t s.cmdbuf) s) := by
  rw [dispatchBuffer_of_not_skipped hs, State.handlerWords_of_le hw, State.drawDeadWords_of_le hw]

/-- A skipped command only ends (R250). -/
theorem dispatchBuffer_of_skipped {h : Handler} {t : Bool} {s : State}
    (hs : (s.frameskip && s.cfg.skippable (cmdId (s.cmdbuf.headD 0))) = true) :
    dispatchBuffer h t s = .next s.endDispatch := by
  rw [dispatchBuffer, hs]
  rfl

/-! ### Decoding, inverted -/

/-- What a decoded rendering command is: one word of an unknown id, or the words that its entry's length takes. -/
theorem decodeGP0_cases {c : Config} {stream rest : List Word} {i : Instr} (h : decodeGP0 c stream = .ok (i, rest)) :
    (∃ w, stream = w :: rest ∧ c.entry (cmdId w) = none ∧ unknownInstr (cmdId w) = some i) ∨
    (∃ e ws t, c.entry (cmdId (stream.headD 0)) = some e ∧ frame e.length 0 stream = some (ws, t, rest) ∧
      e.handler.words ≤ ws.length ∧ i = assemble e.handler t ws) := by
  unfold decodeGP0 at h
  split at h
  · cases h
  · split at h
    · split at h
      · rename_i hi
        cases h
        exact .inl ⟨_, rfl, by assumption, hi⟩
      · cases h
    · rename_i e he
      split at h
      · cases h
      · split at h
        · cases h
          exact .inr ⟨e, _, _, he, by assumption, by assumption, rfl⟩
        · cases h

/-- A truncated command is one of a known id whose length is not reached. -/
theorem decodeGP0_truncated {c : Config} {stream : List Word} (h : decodeGP0 c stream = .error .truncated) :
    ∃ e, c.entry (cmdId (stream.headD 0)) = some e ∧ frame e.length 0 stream = none := by
  unfold decodeGP0 at h
  split at h
  · cases h
  · split at h
    · split at h <;> cases h
    · rename_i e he
      split at h
      · exact ⟨e, he, by assumption⟩
      · split at h <;> cases h

theorem isUnknown_of_unknownInstr {id : BitVec 8} {i : Instr} (h : unknownInstr id = some i) : i.isUnknown = true := by
  have hm := List.mem_map_of_mem (f := Prod.snd) (mem_of_lookup h)
  have : ∀ i ∈ (unknownRowsLow ++ unknownRowsMiddle ++ unknownRowsHigh).map Prod.snd, i.isUnknown = true := by
    decide +kernel
  exact this _ hm

theorem isUnknown_assemble (h : Handler) (t : Bool) (ws : List Word) : (assemble h t ws).isUnknown = false := by
  cases h <;> rfl

/-- A word that completes a command does so within the bound of its entry. -/
theorem frame_last {l : LengthClass} {k : Nat} {ws : List Word} {t : Bool} {w : Word} (hk : k < l.max)
    (h : frame l k (ws ++ [w]) = some (ws ++ [w], t, [])) :
    k + ws.length < l.max ∧ checkComplete l (k + ws.length) w = some t := by
  induction ws generalizing k with
  | nil =>
    refine ⟨by simpa using hk, ?_⟩
    simp only [List.nil_append, frame] at h
    split at h
    · simp at h; simp_all
    · simp at h
  | cons x ws ih =>
    rw [List.cons_append, frame] at h
    split at h
    · simp at h
    · rename_i hn
      split at h
      · rename_i hf
        simp at h
        obtain ⟨rfl, rfl, rfl⟩ := h
        have := ih (lt_max_of_checkComplete_none hk hn) hf
        rw [List.length_cons, show k + (ws.length + 1) = k + 1 + ws.length by omega]
        exact this
      · cases h

/-- A word that does not complete a command leaves room for the next. -/
theorem frame_none_last {l : LengthClass} {k : Nat} {ws : List Word} {w : Word} (hk : k < l.max)
    (h : frame l k (ws ++ [w]) = none) : k + ws.length < l.max ∧ checkComplete l (k + ws.length) w = none := by
  induction ws generalizing k with
  | nil =>
    simp only [List.nil_append, frame] at h
    split at h
    · cases h
    · exact ⟨hk, by assumption⟩
  | cons x ws ih =>
    rw [List.cons_append, frame] at h
    split at h
    · cases h
    · rename_i hn
      split at h
      · cases h
      · rename_i hf
        have := ih (lt_max_of_checkComplete_none hk hn) hf
        rw [List.length_cons, show k + (ws.length + 1) = k + 1 + ws.length by omega]
        exact this

/-! ### The control channel -/

/-- Recording a control word is writing it at its own id (R45, R270). -/
theorem recordControl_eq {s : State} {w : Word} {c : BitVec 6} (h : (cmdId w).extractLsb' 0 6 = c) :
    s.recordControl (w.extractLsb' 30 2) c (colour24 w) = s.recorded w := by
  have h1 : w.extractLsb' 30 2 ++ c = cmdId w := by
    subst h
    apply BitVec.eq_of_getLsbD_eq
    intro i hi
    rw [BitVec.getLsbD_append]
    by_cases h : i < 6
    · simp [h, cmdId]
    · rw [if_neg h, cmdId, BitVec.getLsbD_extractLsb', BitVec.getLsbD_extractLsb', show 30 + (i - 6) = 24 + i by omega]
      simp [hi, show i - 6 < 2 by omega]
  have h2 : encControl (w.extractLsb' 30 2) c (colour24 w) = w := by
    show w.extractLsb' 30 2 ++ c ++ colour24 w = w
    rw [h1]
    exact cmdId_append_colour24 w
  simp only [State.recordControl, h2, h1, State.recorded]

/-- Outside the GPU-info band an id keeps its low six bits. -/
theorem extractLsb'_canonical : ∀ id : BitVec 8, (canonical id).toNat ≠ 0x10 →
    id.extractLsb' 0 6 = (canonical id).extractLsb' 0 6 := by decide +kernel

/-- Every control word decodes to a control command. -/
theorem channel_decodeGP1 (w : Word) : (decodeGP1 w).channel = .gp1 := by
  have : ∀ f ∈ controlRows, ∀ a b c, (f a b c).channel = .gp1 := by
    simp only [controlRows, controlRowsLow, controlRowsHigh, List.forall_mem_append, List.forall_mem_cons,
      List.not_mem_nil, false_implies, implies_true, and_true]
    repeat' apply And.intro
    all_goals (intros; rfl)
  exact this _ (List.getElem_mem _) _ _ _

/-! ### Refusals -/

/-- No command is refused. -/
theorem exec_ne_refused (i : Instr) (s : State) (r : Refusal) : exec i s ≠ .refused r := by
  obtain ⟨t, h, -⟩ := exec_effect i s
  simp [h]

theorem endDispatch_exec (i : Instr) (s : State) :
    ∃ t, exec i s = .next t ∧ Effect s t ∧ endDispatch (exec i s) = .next t.endDispatch := by
  obtain ⟨t, h, e⟩ := exec_effect i s
  exact ⟨t, h, e, by rw [h]; rfl⟩

/-- A port operation is refused only where an assertion of the assembler fails (R324). -/
theorem portStep_refused {op : PortOp} {s : State} {r : Refusal} (h : portStep op s = .refused r) : r = .assertionFailed := by
  have hd : ∀ hd t s, dispatchBuffer hd t s = .refused r → r = .assertionFailed := by
    intro hd t s h
    unfold dispatchBuffer at h
    split at h
    · cases h
    · obtain ⟨u, -, -, hu⟩ := endDispatch_exec (assemble hd t (s.handlerWords hd)) (s.drawDeadWords hd)
      rw [hu] at h; cases h
  have hb : ∀ e w s, bufferWord e w s = .refused r → r = .assertionFailed := by
    intro e w s h
    unfold bufferWord at h
    split at h
    · exact hd _ _ _ h
    · cases h
  cases op <;> simp only [portStep] at h
  case writeGP0 w =>
    unfold writeGP0 at h
    split at h
    · cases h
    · split at h
      · unfold firstWord at h
        split at h
        · exact hb _ _ _ h
        · split at h
          · exact absurd h (exec_ne_refused _ _ _)
          · cases h
      · unfold nextWord at h
        split at h
        · split at h
          · exact hb _ _ _ h
          · cases h; rfl
        · cases h; rfl
  case writeGP1 w => exact absurd h (exec_ne_refused _ _ _)
  case powerOn => cases h
  all_goals (simp only [readStatus, readData, setFrameSkip, writeStatusRaw, freeze, thaw] at h; (try split at h) <;> cases h)

/-- Everything a word written to the rendering channel can do: it is transfer data, it is discarded or buffered, it ends a skipped
command, or a command ends with it, its free words drawn if it needed some (R241 to R250). -/
theorem writeGP0_cases {w : Word} {s t : State} (h : writeGP0 w s = .next t) :
    (s.wmode = .passthrough ∧ t = s.passthroughWord w) ∨
    (s.wmode = .framing ∧ (t = s ∨ t = { s with cmdbuf := s.cmdbuf ++ [w] } ∨
      t = State.endDispatch { s with cmdbuf := s.cmdbuf ++ [w] } ∨
      ∃ h u, Effect (State.drawDeadWords { s with cmdbuf := s.cmdbuf ++ [w] } h) u ∧ t = u.endDispatch)) := by
  have hb : ∀ e, bufferWord e w s = .next t → t = { s with cmdbuf := s.cmdbuf ++ [w] } ∨
      t = State.endDispatch { s with cmdbuf := s.cmdbuf ++ [w] } ∨
      ∃ h u, Effect (State.drawDeadWords { s with cmdbuf := s.cmdbuf ++ [w] } h) u ∧ t = u.endDispatch := by
    intro e h
    unfold bufferWord dispatchBuffer at h
    simp only at h
    split at h
    · split at h
      · cases h; exact .inr (.inl rfl)
      · rename_i t' _ _
        obtain ⟨u, -, he, hu⟩ := endDispatch_exec
          (assemble e.handler t' (State.handlerWords { s with cmdbuf := s.cmdbuf ++ [w] } e.handler))
          (State.drawDeadWords { s with cmdbuf := s.cmdbuf ++ [w] } e.handler)
        rw [hu] at h; cases h
        exact .inr (.inr ⟨_, u, he, rfl⟩)
    · cases h; exact .inl rfl
  unfold writeGP0 at h
  split at h
  · cases h; exact .inl ⟨by assumption, rfl⟩
  · refine .inr ⟨by assumption, ?_⟩
    split at h
    · unfold firstWord at h
      split at h
      · exact .inr (hb _ h)
      · split at h
        · rename_i hi; rw [exec_of_unknownInstr hi] at h; cases h; exact .inl rfl
        · cases h; exact .inl rfl
    · unfold nextWord at h
      split at h
      · split at h
        · exact .inr (hb _ h)
        · cases h
      · cases h

end Sys2Proof.Machine
end

