-- ==== Sys2Proof/Laws/Memory.lean ====
section
/-!
SUPPORT. Laws/Memory.lean: what reading after writing gives, that a write leaves every other byte alone, and that every memory
operation keeps the canonical form `Vram.wf`.
-/

namespace Sys2Proof.Machine

-- One proof at a time: the threads of proofs elaborated side by side need too much memory.
set_option Elab.async false

/-! ### Lists of cells -/

/-- Addresses strictly rising, no entry equal to its unlisted value. -/
abbrev canonicalCells (d : Nat → Byte) (cells : List Host.Cell) : Prop :=
  cells.Pairwise (fun p q => p.1 < q.1) ∧ ∀ c ∈ cells, c.2 ≠ d c.1

theorem canonicalCells_tail {d : Nat → Byte} {c : Host.Cell} {cells : List Host.Cell}
    (h : canonicalCells d (c :: cells)) : canonicalCells d cells :=
  ⟨(List.pairwise_cons.1 h.1).2, fun x hx => h.2 x (List.mem_cons_of_mem _ hx)⟩

theorem readCells_of_lt {d : Nat → Byte} {a : Nat} {cells : List Host.Cell} (h : ∀ c ∈ cells, a < c.1) :
    readCells d a cells = d a := by
  induction cells with
  | nil => rfl
  | cons c cells ih =>
    obtain ⟨k, b⟩ := c
    have hk : a < k := h (k, b) (List.mem_cons_self ..)
    simp only [readCells, if_neg (show ¬k = a by omega)]
    exact ih fun x hx => h x (List.mem_cons_of_mem _ hx)

/-- Reading after writing: the byte written at its address, the old byte at every other. -/
theorem readCells_writeCells {d : Nat → Byte} {cells : List Host.Cell} (h : canonicalCells d cells) (a a' : Nat) (b : Byte) :
    readCells d a' (writeCells d a b cells) = if a' = a then b else readCells d a' cells := by
  induction cells with
  | nil =>
    rcases eq_or_ne a' a with rfl | ha
    · by_cases hb : b = d a' <;> simp [writeCells, readCells, hb]
    · by_cases hb : b = d a <;> simp [writeCells, readCells, hb, ha, ha.symm]
  | cons c cells ih =>
    obtain ⟨k, e⟩ := c
    have hrest : ∀ c ∈ cells, k < c.1 := (List.pairwise_cons.1 h.1).1
    have ih := ih (canonicalCells_tail h)
    simp only [writeCells]
    split
    · rename_i hlt
      split
      · rename_i hb
        by_cases ha : a' = a
        · subst ha
          rw [readCells_of_lt (by
            intro c hc
            rcases List.mem_cons.1 hc with rfl | hc
            · exact hlt
            · exact hlt.trans (hrest c hc))]
          simp [hb]
        · simp [ha]
      · rcases eq_or_ne a' a with rfl | ha
        · simp [readCells]
        · simp [readCells, ha, ha.symm]
    · split
      · rename_i _ hk
        subst hk
        split
        · rename_i hb
          by_cases ha : a' = a
          · subst ha
            rw [readCells_of_lt hrest]
            simp [hb]
          · simp [readCells, ha, Ne.symm ha]
        · rcases eq_or_ne a' a with rfl | ha
          · simp [readCells]
          · simp [readCells, ha, ha.symm]
      · rename_i hlt hk
        simp only [readCells, ih]
        by_cases ha : a' = a
        · subst ha
          simp [show ¬k = a' by omega]
        · simp [ha]

theorem mem_writeCells {d : Nat → Byte} {a : Nat} {b : Byte} {cells : List Host.Cell} {c : Host.Cell}
    (h : c ∈ writeCells d a b cells) : c ∈ cells ∨ (c = (a, b) ∧ b ≠ d a) := by
  induction cells with
  | nil =>
    simp only [writeCells] at h
    split at h <;> simp_all
  | cons e cells ih =>
    obtain ⟨k, e⟩ := e
    simp only [writeCells] at h
    split at h
    · split at h <;> simp_all
      tauto
    · split at h
      · split at h <;> simp_all
        tauto
      · rcases List.mem_cons.1 h with h | h
        · exact .inl (by simp [h])
        · exact (ih h).imp (List.mem_cons_of_mem _) id

theorem canonicalCells_writeCells {d : Nat → Byte} {cells : List Host.Cell} (h : canonicalCells d cells) (a : Nat) (b : Byte) :
    canonicalCells d (writeCells d a b cells) := by
  refine ⟨?_, fun c hc => ?_⟩
  · induction cells with
    | nil => simp only [writeCells]; split <;> simp
    | cons c cells ih =>
      obtain ⟨k, e⟩ := c
      have hp := List.pairwise_cons.1 h.1
      have ih := ih (canonicalCells_tail h)
      simp only [writeCells]
      split
      · rename_i hlt
        split
        · exact h.1
        · refine List.pairwise_cons.2 ⟨fun c hc => ?_, h.1⟩
          rcases List.mem_cons.1 hc with rfl | hc
          · exact hlt
          · exact hlt.trans (hp.1 c hc)
      · split
        · rename_i _ hk
          subst hk
          split
          · exact hp.2
          · exact List.pairwise_cons.2 ⟨hp.1, hp.2⟩
        · rename_i hlt hk
          refine List.pairwise_cons.2 ⟨fun c hc => ?_, ih⟩
          rcases mem_writeCells hc with hc | ⟨rfl, -⟩
          · exact hp.1 c hc
          · show k < a
            omega
  · rcases mem_writeCells hc with hc | ⟨rfl, hb⟩
    · exact h.2 c hc
    · exact hb

/-! ### Bytes -/

theorem Vram.wf.canonical {m : Vram} (h : m.wf) : canonicalCells m.unlisted m.cells :=
  ⟨h.1, fun c hc => (h.2 c hc).2⟩

@[simp] theorem Vram.writeByte_epoch (m : Vram) (a : Nat) (b : Byte) : (m.writeByte a b).epoch = m.epoch := rfl

/-- Reading a byte after a write: the byte written at its address, the old byte at every other. -/
theorem Vram.readByte_writeByte {m : Vram} (h : m.wf) (a a' : Nat) (b : Byte) :
    (m.writeByte a b).readByte a' = if a' = a then b else m.readByte a' :=
  readCells_writeCells h.canonical a a' b

theorem Vram.wf_writeByte {m : Vram} (h : m.wf) {a : Nat} (ha : a < vramBytes) (b : Byte) : (m.writeByte a b).wf := by
  have hc := canonicalCells_writeCells h.canonical a b
  refine ⟨hc.1, fun c hm => ⟨?_, hc.2 c hm⟩⟩
  rcases mem_writeCells hm with hm | ⟨rfl, -⟩
  · exact (h.2 c hm).1
  · exact ha

/-- A memory with nothing listed is in canonical form. -/
theorem Vram.wf_nil (epoch : Nat) : Vram.wf ⟨epoch, []⟩ := by simp [Vram.wf]

/-! ### Texels -/

theorem texelAddr_lt (x y : Nat) : texelAddr x y + 1 < vramBytes := by
  unfold texelAddr vramBytes; omega

theorem texelAddr_even (x y : Nat) : texelAddr x y % 2 = 0 := by
  unfold texelAddr; omega

/-- Two texels have one address exactly when their coordinates agree modulo (1024, 512). -/
theorem texelAddr_eq_iff (x y x' y' : Nat) :
    texelAddr x y = texelAddr x' y' ↔ x % 1024 = x' % 1024 ∧ y % 512 = y' % 512 := by
  unfold texelAddr; omega

@[simp] theorem texelAddr_mod (x y : Nat) : texelAddr (x % 1024) (y % 512) = texelAddr x y := by
  unfold texelAddr; omega

@[simp] theorem Vram.write_epoch (m : Vram) (x y : Nat) (v : BitVec 16) : (m.write x y v).epoch = m.epoch := rfl

@[simp] theorem Vram.read_mod (m : Vram) (x y : Nat) : m.read (x % 1024) (y % 512) = m.read x y := by
  simp [Vram.read]

theorem Vram.wf_write {m : Vram} (h : m.wf) (x y : Nat) (v : BitVec 16) : (m.write x y v).wf :=
  wf_writeByte (wf_writeByte h (Nat.lt_of_succ_lt (texelAddr_lt x y)) _) (texelAddr_lt x y) _

/-- Every byte after a texel write. -/
theorem Vram.readByte_write {m : Vram} (h : m.wf) (x y : Nat) (v : BitVec 16) (a : Nat) :
    (m.write x y v).readByte a =
      if a = texelAddr x y then v.extractLsb' 0 8 else if a = texelAddr x y + 1 then v.extractLsb' 8 8 else m.readByte a := by
  have h1 := wf_writeByte h (Nat.lt_of_succ_lt (texelAddr_lt x y)) (v.extractLsb' 0 8)
  rw [Vram.write, readByte_writeByte h1, readByte_writeByte h]
  by_cases h1 : a = texelAddr x y
  · simp [h1]
  · by_cases h2 : a = texelAddr x y + 1 <;> simp [h1, h2]

/-- Reading a texel after a write (R12, R71). -/
theorem Vram.read_write {m : Vram} (h : m.wf) (x y x' y' : Nat) (v : BitVec 16) :
    (m.write x y v).read x' y' = if x % 1024 = x' % 1024 ∧ y % 512 = y' % 512 then v else m.read x' y' := by
  have e := texelAddr_even x y
  have e' := texelAddr_even x' y'
  simp only [Vram.read, readByte_write h, ← texelAddr_eq_iff]
  by_cases ha : texelAddr x y = texelAddr x' y'
  · simp only [ha, if_true, if_neg (show ¬texelAddr x' y' + 1 = texelAddr x' y' by omega)]
    apply BitVec.eq_of_getLsbD_eq
    intro i hi
    rw [BitVec.getLsbD_append]
    split
    · rename_i h; simp [h]
    · rename_i h; simp [show 8 + (i - 8) = i by omega]; omega
  · simp only [ha, if_false, if_neg (show ¬texelAddr x' y' + 1 = texelAddr x y by omega),
      if_neg (show ¬texelAddr x' y' = texelAddr x y + 1 by omega), if_neg (show ¬texelAddr x' y' = texelAddr x y from Ne.symm ha),
      if_neg (show ¬texelAddr x' y' + 1 = texelAddr x y + 1 by omega)]

/-- A byte of no part of the texel is unchanged by a texel write. -/
theorem Vram.readByte_write_of_ne {m : Vram} (h : m.wf) {x y a : Nat} (v : BitVec 16)
    (ha : a ≠ texelAddr x y ∧ a ≠ texelAddr x y + 1) : (m.write x y v).readByte a = m.readByte a := by
  rw [readByte_write h, if_neg ha.1, if_neg ha.2]

@[simp] theorem Vram.writeMasked_epoch (csr : Word) (m : Vram) (x y : Nat) (v : BitVec 16) :
    (Vram.writeMasked csr m x y v).epoch = m.epoch := by
  unfold Vram.writeMasked; split <;> rfl

theorem Vram.wf_writeMasked {m : Vram} (csr : Word) (h : m.wf) (x y : Nat) (v : BitVec 16) :
    (Vram.writeMasked csr m x y v).wf := by
  unfold Vram.writeMasked; split
  · exact h
  · exact wf_write h x y _

theorem Vram.readByte_writeMasked_of_ne {m : Vram} (csr : Word) (h : m.wf) {x y a : Nat} (v : BitVec 16)
    (ha : a ≠ texelAddr x y ∧ a ≠ texelAddr x y + 1) : (Vram.writeMasked csr m x y v).readByte a = m.readByte a := by
  unfold Vram.writeMasked; split
  · rfl
  · exact readByte_write_of_ne h _ ha

/-! ### Loops -/

/-- A property every round of an ascending loop keeps. -/
theorem forUp_keeps {α : Type} {P : α → Prop} {f : Nat → α → α} {n : Nat} {m : α} (h0 : P m)
    (hs : ∀ i < n, ∀ m, P m → P (f i m)) : P (forUp n f m) := by
  induction n with
  | zero => exact h0
  | succ n ih => exact hs n (Nat.lt_succ_self n) _ (ih fun i hi => hs i (Nat.lt_succ_of_lt hi))

/-- A property every round of a descending loop keeps. -/
theorem forDown_keeps {α : Type} {P : α → Prop} {f : Nat → α → α} {n : Nat} {m : α} (h0 : P m)
    (hs : ∀ i < n, ∀ m, P m → P (f i m)) : P (forDown n f m) := by
  induction n generalizing m with
  | zero => exact h0
  | succ n ih => exact ih (hs n (Nat.lt_succ_self n) _ h0) fun i hi => hs i (Nat.lt_succ_of_lt hi)

/-- The invariant rule of an ascending loop: `P i` holds before round `i`. -/
theorem forUp_induct {α : Type} {P : Nat → α → Prop} {f : Nat → α → α} {n : Nat} {m : α} (h0 : P 0 m)
    (hs : ∀ i < n, ∀ m, P i m → P (i + 1) (f i m)) : P n (forUp n f m) := by
  induction n with
  | zero => exact h0
  | succ n ih => exact hs n (Nat.lt_succ_self n) _ (ih fun i hi => hs i (Nat.lt_succ_of_lt hi))

/-- The invariant rule of a descending loop: `P i` holds after round `i`. -/
theorem forDown_induct {α : Type} {P : Nat → α → Prop} {f : Nat → α → α} {n : Nat} {m : α} (h0 : P n m)
    (hs : ∀ i < n, ∀ m, P (i + 1) m → P i (f i m)) : P 0 (forDown n f m) := by
  induction n generalizing m with
  | zero => exact h0
  | succ n ih => exact ih (hs n (Nat.lt_succ_self n) _ h0) fun i hi => hs i (Nat.lt_succ_of_lt hi)

/-! ### Rectangles -/

theorem Vram.wf_fillRectangle {m : Vram} (h : m.wf) (align : Bool) (dst : Pos) (size : Size) (c : BitVec 16) :
    (fillRectangle align dst size c m).wf :=
  forDown_keeps h fun _ _ _ h => forDown_keeps h fun _ _ _ h => Vram.wf_write h _ _ _

theorem Vram.wf_copyRectangle {m : Vram} (csr : Word) (h : m.wf) (src dst : Pos) (size : Size) :
    (copyRectangle csr src dst size m).wf :=
  forUp_keeps h fun _ _ _ h => forUp_keeps h fun _ _ _ h => Vram.wf_writeMasked csr h _ _ _

/-! ### Images -/

theorem zipIdx_filterMap_canonical (d : Nat → Byte) (bytes : List Byte) (k : Nat) :
    canonicalCells d ((bytes.zipIdx k).filterMap fun (b, a) => if b = d a then none else some (a, b)) ∧
      ∀ c ∈ (bytes.zipIdx k).filterMap fun (b, a) => if b = d a then none else some (a, b),
        k ≤ c.1 ∧ c.1 < k + bytes.length := by
  induction bytes generalizing k with
  | nil => simp [canonicalCells]
  | cons b bytes ih =>
    obtain ⟨⟨ih1, ih2⟩, ih3⟩ := ih (k + 1)
    simp only [List.zipIdx_cons, List.filterMap_cons, List.length_cons]
    by_cases hb : b = d k
    · simp only [hb, if_true]
      exact ⟨⟨ih1, ih2⟩, fun c hc => by have := ih3 c hc; omega⟩
    · simp only [hb, if_false]
      refine ⟨⟨List.pairwise_cons.2 ⟨fun c hc => ?_, ih1⟩, fun c hc => ?_⟩, fun c hc => ?_⟩
      · have := ih3 c hc; show k < c.1; omega
      · rcases List.mem_cons.1 hc with rfl | hc
        · exact hb
        · exact ih2 c hc
      · rcases List.mem_cons.1 hc with rfl | hc
        · exact ⟨le_refl k, by show k < k + (bytes.length + 1); omega⟩
        · have := ih3 c hc; omega

theorem readCells_zipIdx (d : Nat → Byte) (bytes : List Byte) (k a : Nat) :
    readCells d (k + a) ((bytes.zipIdx k).filterMap fun (b, a) => if b = d a then none else some (a, b)) =
      bytes.getD a (d (k + a)) := by
  induction bytes generalizing k a with
  | nil => simp [readCells]
  | cons b bytes ih =>
    have hz := (zipIdx_filterMap_canonical d bytes (k + 1)).2
    have ih := ih (k + 1)
    simp only [List.zipIdx_cons, List.filterMap_cons]
    cases a with
    | zero =>
      by_cases hb : b = d k
      · simp only [hb, if_true]
        rw [readCells_of_lt fun c hc => by have := hz c hc; omega]
        simp
      · simp [hb, readCells]
    | succ a =>
      have ih := ih a
      rw [show k + 1 + a = k + (a + 1) by omega] at ih
      by_cases hb : b = d k
      · simp only [hb, if_true, ih]
        simp
      · simp only [hb, if_false, readCells, ih]
        simp

/-- The canonical form of a restored image. -/
theorem Vram.wf_ofImage (epoch : Nat) {bytes : List Byte} (h : bytes.length ≤ vramBytes) : (Vram.ofImage epoch bytes).wf := by
  obtain ⟨⟨h1, h2⟩, h3⟩ := zipIdx_filterMap_canonical (Config.vramPowerOn epoch) bytes 0
  exact ⟨h1, fun c hc => ⟨by have := (h3 c hc).2; omega, h2 c hc⟩⟩

/-- A restored image reads as its bytes. -/
theorem Vram.readByte_ofImage (epoch : Nat) (bytes : List Byte) (a : Nat) :
    (Vram.ofImage epoch bytes).readByte a = bytes.getD a (Config.vramPowerOn epoch a) := by
  have := readCells_zipIdx (Config.vramPowerOn epoch) bytes 0 a
  rw [Nat.zero_add] at this
  exact this

theorem Vram.length_image (m : Vram) : m.image.length = vramBytes := by
  unfold Vram.image; rw [List.length_map, List.length_range]

/-- Byte `a` of the image is byte `a` of VRAM (R72). -/
theorem Vram.getElem?_image (m : Vram) {a : Nat} (h : a < vramBytes) : m.image[a]? = some (m.readByte a) := by
  rw [Vram.image, List.getElem?_map, List.getElem?_range h]
  rfl

theorem Vram.getD_image (m : Vram) {a : Nat} (h : a < vramBytes) (b : Byte) : m.image.getD a b = m.readByte a := by
  rw [List.getD_eq_getElem?_getD, m.getElem?_image h, Option.getD_some]

end Sys2Proof.Machine
end

