-- ==== Sys2Proof/Laws/SaveState.lean ====
section
/-!
SUPPORT. Laws/SaveState.lean: the fields of a save-state record (R308), read back.
-/

namespace Sys2Proof.Machine

-- One proof at a time: the threads of proofs elaborated side by side need too much memory.
set_option Elab.async false

/-- Two neighbouring bit fields are one. -/
theorem extractLsb'_append_next (w : Word) (lo n m : Nat) :
    w.extractLsb' (lo + n) m ++ w.extractLsb' lo n = w.extractLsb' lo (m + n) := by
  apply BitVec.eq_of_getLsbD_eq
  intro i hi
  rw [BitVec.getLsbD_append]
  by_cases h : i < n
  · rw [if_pos h]
    simp only [BitVec.getLsbD_extractLsb', h, hi, decide_true, Bool.true_and]
  · rw [if_neg h]
    simp only [BitVec.getLsbD_extractLsb', show i - n < m by omega, hi, decide_true, Bool.true_and,
      show lo + n + (i - n) = lo + i by omega]

/-- A 32-bit field reads back (R308). -/
theorem wordAt_le32 (w : Word) (rest : List Byte) : wordAt (le32 w ++ rest) 0 = w := by
  show w.extractLsb' 24 8 ++ w.extractLsb' 16 8 ++ w.extractLsb' 8 8 ++ w.extractLsb' 0 8 = w
  rw [extractLsb'_append_next w 16 8 8, extractLsb'_append_next w 8 8 16, extractLsb'_append_next w 0 8 24]
  exact BitVec.extractLsb'_eq_self

/-- A field after a 32-bit field. -/
theorem wordAt_le32_add (w : Word) (rest : List Byte) (k : Nat) : wordAt (le32 w ++ rest) (k + 4) = wordAt rest k := by
  simp [wordAt, le32]

/-- A field of a table of 32-bit fields. -/
theorem wordAt_flatMap (ws : List Word) (rest : List Byte) {k : Nat} (h : k < ws.length) :
    wordAt (ws.flatMap le32 ++ rest) (4 * k) = ws[k] := by
  induction ws generalizing k with
  | nil => simp at h
  | cons w ws ih =>
    rw [List.flatMap_cons, List.append_assoc]
    cases k with
    | zero => exact wordAt_le32 _ _
    | succ k =>
      rw [show 4 * (k + 1) = 4 * k + 4 by omega, wordAt_le32_add]
      simpa using ih (by simpa using h)

theorem length_flatMap_le32 (ws : List Word) : (ws.flatMap le32).length = 4 * ws.length := by
  induction ws with
  | nil => rfl
  | cons w ws ih => rw [List.flatMap_cons, List.length_append, ih, List.length_cons, le32]; simp; omega

/-- Byte `k` of a 32-bit field, low byte first (R308). -/
theorem getElem?_le32 (w : Word) (rest : List Byte) {k : Nat} (h : k < 4) :
    (le32 w ++ rest)[k]? = some (w.extractLsb' (8 * k) 8) := by
  have : k = 0 ∨ k = 1 ∨ k = 2 ∨ k = 3 := by omega
  rcases this with rfl | rfl | rfl | rfl <;> rfl

/-- A byte after a 32-bit field. -/
theorem getElem?_le32_add (w : Word) (rest : List Byte) (k : Nat) : (le32 w ++ rest)[4 + k]? = rest[k]? :=
  List.getElem?_append_right (by simp [le32]) |>.trans (by simp [le32])

/-- Byte `k` of entry `i` of a table of 32-bit fields (R308). -/
theorem getElem?_flatMap_le32 (ws : List Word) (rest : List Byte) {i k : Nat} (hi : i < ws.length) (hk : k < 4) :
    (ws.flatMap le32 ++ rest)[4 * i + k]? = some (ws[i].extractLsb' (8 * k) 8) := by
  induction ws generalizing i with
  | nil => simp at hi
  | cons w ws ih =>
    rw [List.flatMap_cons, List.append_assoc]
    cases i with
    | zero => rw [Nat.mul_zero, Nat.zero_add]; exact getElem?_le32 w _ hk
    | succ i =>
      rw [show 4 * (i + 1) + k = 4 + (4 * i + k) by omega, getElem?_le32_add]
      simpa using ih (by simpa using hi)

/-- The length of a record (R308). -/
theorem length_blob (s : State) : s.blob.length = blobBytes := by
  simp only [State.blob, List.length_append, length_flatMap_le32, Vram.length_image]
  simp [le32, vramBytes, blobBytes]

end Sys2Proof.Machine
end

