-- ==== Sys2Proof/Laws/Transfer.lean ====
section
/-!
SUPPORT. Laws/Transfer.lean: where a transfer cursor stands in its rectangle, and what one half-word of a transfer does.
-/

namespace Sys2Proof.Machine

-- One proof at a time: the threads of proofs elaborated side by side need too much memory.
set_option Elab.async false

/-! ### Cursors -/

/-- How many texels of the rectangle come before the cursor's in raster order. -/
def Cursor.pos (c : Cursor) : Nat := c.row * c.wid + c.col

@[simp] theorem Cursor.advance_x0 (c : Cursor) : c.advance.x0 = c.x0 := by unfold Cursor.advance; split <;> rfl
@[simp] theorem Cursor.advance_y0 (c : Cursor) : c.advance.y0 = c.y0 := by unfold Cursor.advance; split <;> rfl
@[simp] theorem Cursor.advance_wid (c : Cursor) : c.advance.wid = c.wid := by unfold Cursor.advance; split <;> rfl
@[simp] theorem Cursor.advance_hgt (c : Cursor) : c.advance.hgt = c.hgt := by unfold Cursor.advance; split <;> rfl
@[simp] theorem Cursor.advance_rem (c : Cursor) : c.advance.rem = c.rem := by unfold Cursor.advance; split <;> rfl

theorem Cursor.advance_col_lt {c : Cursor} (h : c.col < c.wid) : c.advance.col < c.wid := by
  unfold Cursor.advance; split
  · show 0 < c.wid; omega
  · show c.col + 1 < c.wid; omega

/-- Advancing moves to the next texel in raster order (R205). -/
theorem Cursor.advance_pos (c : Cursor) : c.advance.pos = c.pos + 1 := by
  unfold Cursor.advance Cursor.pos
  split
  · rename_i h
    show (c.row + 1) * c.wid + 0 = c.row * c.wid + c.col + 1
    rw [Nat.add_mul]; omega
  · show c.row * c.wid + (c.col + 1) = c.row * c.wid + c.col + 1
    omega

/-- The row of a position. -/
theorem Cursor.row_eq {c : Cursor} (h : c.col < c.wid) : c.row = c.pos / c.wid := by
  have hw : 0 < c.wid := by omega
  rw [Cursor.pos, Nat.add_comm, Nat.add_mul_div_right _ _ hw, Nat.div_eq_of_lt h, Nat.zero_add]

/-- The column of a position. -/
theorem Cursor.col_eq {c : Cursor} (h : c.col < c.wid) : c.col = c.pos % c.wid := by
  rw [Cursor.pos, Nat.add_comm, Nat.add_mul_mod_self_right, Nat.mod_eq_of_lt h]

/-- A cursor is inside its rectangle as long as texels are left. -/
theorem Cursor.row_lt_iff {c : Cursor} (h : c.col < c.wid) : c.row < c.hgt ↔ c.pos < c.wid * c.hgt := by
  have hw : 0 < c.wid := by omega
  rw [Cursor.row_eq h, Nat.div_lt_iff_lt_mul hw, Nat.mul_comm]

/-- Two positions of a rectangle no larger than VRAM are one texel only if they are equal. -/
theorem texelAddr_pos_inj {x0 y0 ww hh k k' : Nat} (hw : ww ≤ 1024) (hh512 : hh ≤ 512) (hk : k < ww * hh) (hk' : k' < ww * hh)
    (h : texelAddr (x0 + k % ww) (y0 + k / ww) = texelAddr (x0 + k' % ww) (y0 + k' / ww)) : k = k' := by
  rw [texelAddr_eq_iff] at h
  have hpos : 0 < ww := Nat.pos_of_ne_zero (by rintro rfl; simp at hk)
  have c1 := Nat.mod_lt k hpos
  have c2 := Nat.mod_lt k' hpos
  have r1 : k / ww < hh := by rw [Nat.div_lt_iff_lt_mul hpos, Nat.mul_comm]; exact hk
  have r2 : k' / ww < hh := by rw [Nat.div_lt_iff_lt_mul hpos, Nat.mul_comm]; exact hk'
  have hc : k % ww = k' % ww := by omega
  have hr : k / ww = k' / ww := by
    have h2 := h.2
    generalize k / ww = r at *
    generalize k' / ww = r' at *
    omega
  rw [← Nat.div_add_mod k ww, ← Nat.div_add_mod k' ww, hc, hr]

/-- The start of a transfer: a live cursor at position 0 (R204, R206). -/
theorem Cursor.live_start (p : Pos) (z : Size) : (Cursor.start p z).live := by
  have hw : 1 ≤ effW z.w ∧ effW z.w ≤ 1024 := by
    unfold effW; split
    · simp
    · rename_i h
      have : z.w.toNat ≠ 0 := fun h0 => h (BitVec.eq_of_toNat_eq (by simpa using h0))
      have := z.w.isLt
      omega
  have hh : 1 ≤ effH z.h ∧ effH z.h ≤ 512 := by
    unfold effH; split
    · simp
    · rename_i h
      have : z.h.toNat ≠ 0 := fun h0 => h (BitVec.eq_of_toNat_eq (by simpa using h0))
      have := z.h.isLt
      omega
  refine ⟨hw.1, hw.2, hh.1, hh.2, hw.1, hh.1, ?_⟩
  show xferWords z = (effW z.w * effH z.h - (0 * effW z.w + 0) + 1) / 2
  simp [xferWords]

/-- After two texels and one word, a live cursor with words left is live (R41, R42). -/
theorem Cursor.live_of_two {c d : Cursor} (hc : c.live) (hx : d.wid = c.wid) (hy : d.hgt = c.hgt) (hcol : d.col < d.wid)
    (hpos : c.pos + 2 ≤ c.wid * c.hgt → d.pos = c.pos + 2) (hrem : d.rem = c.rem - 1) (hne : d.rem ≠ 0) : d.live := by
  obtain ⟨h1, h2, h3, h4, h5, h6, h7⟩ := hc
  have hp : c.pos < c.wid * c.hgt := (Cursor.row_lt_iff h5).1 h6
  have h7 : c.rem = (c.wid * c.hgt - c.pos + 1) / 2 := h7
  have hd : d.pos = c.pos + 2 := hpos (by omega)
  refine ⟨by omega, by omega, by omega, by omega, hcol, ?_, ?_⟩
  · rw [Cursor.row_lt_iff hcol, hx, hy]; omega
  · show d.rem = (d.wid * d.hgt - d.pos + 1) / 2
    rw [hx, hy, hd]; omega

/-! ### Half-words of a load -/

/-- One half-word changes VRAM and the cursor only (R205). -/
theorem State.storeHalf_eq (s : State) (half : BitVec 16) :
    s.storeHalf half = { s with vram := (s.storeHalf half).vram, wcur := (s.storeHalf half).wcur } := by
  unfold State.storeHalf; split <;> rfl

@[simp] theorem State.storeHalf_csr (s : State) (half : BitVec 16) : (s.storeHalf half).csr = s.csr := by
  unfold State.storeHalf; split <;> rfl

/-- The frame memory after a half-word (R205). -/
theorem State.storeHalf_vram (s : State) (half : BitVec 16) : (s.storeHalf half).vram =
    if s.wcur.row < s.wcur.hgt then s.vram.writeMasked s.csr s.wcur.x s.wcur.y half else s.vram := by
  unfold State.storeHalf; split <;> rfl

/-- The cursor after a half-word (R205). -/
theorem State.storeHalf_wcur (s : State) (half : BitVec 16) : (s.storeHalf half).wcur =
    if s.wcur.row < s.wcur.hgt then s.wcur.advance else s.wcur := by
  unfold State.storeHalf; split <;> rfl

theorem State.wf_storeHalf {s : State} (h : s.vram.wf) (half : BitVec 16) : (s.storeHalf half).vram.wf := by
  rw [storeHalf_vram]; split
  · exact Vram.wf_writeMasked s.csr h _ _ _
  · exact h

/-- A payload word changes VRAM, the cursor and the mode only (R205). -/
theorem State.passthroughWord_eq (s : State) (w : Word) : s.passthroughWord w =
    { s with
      vram := ((s.storeHalf (w.extractLsb' 0 16)).storeHalf (w.extractLsb' 16 16)).vram
      wcur := (s.passthroughWord w).wcur, wmode := (s.passthroughWord w).wmode } := by
  unfold State.passthroughWord
  rw [storeHalf_eq (s.storeHalf _), storeHalf_eq s]

theorem State.wf_passthroughWord {s : State} (h : s.vram.wf) (w : Word) : (s.passthroughWord w).vram.wf := by
  rw [passthroughWord_eq]; exact wf_storeHalf (wf_storeHalf h _) _

/-- The result of a masked store, as a value (R80). -/
theorem Vram.read_writeMasked {m : Vram} (csr : Word) (h : m.wf) (x y x' y' : Nat) (v : BitVec 16) :
    (Vram.writeMasked csr m x y v).read x' y' =
      if x % 1024 = x' % 1024 ∧ y % 512 = y' % 512 then maskedResult csr (m.read x y) v else m.read x' y' := by
  unfold Vram.writeMasked maskedResult
  split
  · rename_i hp
    split
    · rename_i he
      rw [← Vram.read_mod m x y, ← Vram.read_mod m x' y', he.1, he.2]
    · rfl
  · rw [Vram.read_write h]
    rfl

end Sys2Proof.Machine
end

