-- ==== Sys2Proof/Tests/Slice0.lean ====
section
/-!
SUPPORT. Tests/Slice0.lean: ill-formed terms that `wellFormed` refuses, configurations that R8 and U16 have refused, words written out from
the encoding tables of spec/30_encoding.md
that decode to the commands they stand for, one-step tests whose results are those of spec/95_test_vectors.md, and for every statement
with hypotheses a state and operands that meet them.
-/

namespace Sys2Proof.Tests

open Sys2Proof.Machine

-- One proof at a time: the threads of proofs elaborated side by side need too much memory.
set_option Elab.async false

/-! ### Other configurations -/

/-- The default configuration with the entry of one id replaced (R8). -/
def withEntry (id : Nat) (e : Option DispatchEntry) : Config :=
  { Config.default with dispatch := Config.default.dispatch.setIfInBounds id e }

/-- The default configuration with another skippable range (R8, R251). -/
def withSkip (lo hi : BitVec 8) : Config := { Config.default with skipLo := lo, skipHi := hi }

/-- The default configuration with the transfer mirrors (R8, R108). -/
def mirrors : Config := { Config.default with transferMirrors := true }

/-- The tables R8 forbids: a fixed length 0 or above 256, and a variable length on a handler that draws no line. -/
theorem test_tableWf_refuses :
    (withEntry 0x20 (some ⟨.fixed 0, .polyF3⟩)).tableWf = false ∧ (withEntry 0x20 (some ⟨.fixed 257, .polyF3⟩)).tableWf = false ∧
    (withEntry 0xFF (some ⟨.varF, .polyF3⟩)).tableWf = false ∧ (withEntry 0x00 (some ⟨.varG, .tile⟩)).tableWf = false := by
  decide +kernel

/-- Tables R8 allows: fixed lengths 1 and 256, a variable length on each line handler, no entry. -/
theorem test_tableWf_accepts :
    (withEntry 0x20 (some ⟨.fixed 1, .polyF3⟩)).wf = true ∧ (withEntry 0x20 (some ⟨.fixed 256, .polyF3⟩)).wf = true ∧
    (withEntry 0xFF (some ⟨.varF, .lineG2⟩)).wf = true ∧ (withEntry 0x00 (some ⟨.varG, .plineF⟩)).wf = true ∧
    (withEntry 0x40 none).wf = true := by
  decide +kernel

/-- Skippable ranges: one that takes in `IRQ1`, `FILL` or `MOVE` is refused, in a mirror range too; one of unknown ids, or empty, is
not (U16; log 8). -/
theorem test_skipWf :
    (withSkip 0x1F 0x7F).wf = false ∧ (withSkip 0x00 0x02).wf = false ∧ (withSkip 0x20 0x80).wf = false ∧
    { withSkip 0x81 0x81 with transferMirrors := true }.wf = false ∧
    (withSkip 0x81 0x81).wf = true ∧ (withSkip 0x00 0x01).wf = true ∧ (withSkip 0x03 0x1E).wf = true ∧
    (withSkip 0x80 0x7F).wf = true := by
  decide +kernel

/-! ### Ill-formed terms -/

/-- A mono poly-line of one vertex, or of 253 vertices with a terminator, or cut short of 253, is no command (R173). -/
theorem test_wellFormed_refuses_mono_polyline :
    Instr.wellFormed Config.default (.plineF 0b010010 false false 0 [⟨1, 2⟩] true) = false ∧
    Instr.wellFormed Config.default (.plineF 0b010010 false false 0 (List.replicate 253 ⟨1, 2⟩) true) = false ∧
    Instr.wellFormed Config.default (.plineF 0b010010 false false 0 (List.replicate 252 ⟨1, 2⟩) false) = false := by decide +kernel

/-- A shaded poly-line of one vertex, or of 128, or cut short of 127, is no command (R174). -/
theorem test_wellFormed_refuses_shaded_polyline :
    Instr.wellFormed Config.default (.plineG 0b010110 false false [(0, ⟨1, 2⟩)] true) = false ∧
    Instr.wellFormed Config.default (.plineG 0b010110 false false (List.replicate 128 (0, ⟨1, 2⟩)) true) = false ∧
    Instr.wellFormed Config.default (.plineG 0b010110 false false (List.replicate 126 (0, ⟨1, 2⟩)) false) = false := by decide +kernel

/-- A mirrored transfer id is a transfer command only with the mirrors on (R108). -/
theorem test_wellFormed_refuses_mirror :
    Instr.wellFormed Config.default (.move 0x81 ⟨0, 0⟩ ⟨0, 0⟩ ⟨0, 0⟩) = false ∧
    Instr.wellFormed Config.default (.load 0xBF ⟨0, 0⟩ ⟨0, 0⟩) = false ∧
    Instr.wellFormed Config.default (.store 0xD0 ⟨0, 0⟩ ⟨0, 0⟩) = false ∧
    Instr.wellFormed mirrors (.store 0xD0 ⟨0, 0⟩ ⟨0, 0⟩) = true := by decide +kernel

/-- A command under an id of another handler, or of the right one at another length, is none (R102, R108). -/
theorem test_wellFormed_refuses_id :
    Instr.wellFormed Config.default (.polyF3 0b000111 0b11 0 ⟨0, 0⟩ ⟨0, 0⟩ ⟨0, 0⟩) = false ∧
    Instr.wellFormed Config.default (.polyF3 0b001001 0b00 0 ⟨0, 0⟩ ⟨0, 0⟩ ⟨0, 0⟩) = false ∧
    Instr.wellFormed (withEntry 0x20 (some ⟨.fixed 5, .polyF3⟩)) (.polyF3 0b001000 0b00 0 ⟨0, 0⟩ ⟨0, 0⟩ ⟨0, 0⟩) = false ∧
    Instr.wellFormed (withEntry 0xE1 none) (.texpage 0 false 0) = false ∧
    Instr.wellFormed (withEntry 0x1F (some ⟨.fixed 2, .irq1⟩)) .irq1 = false ∧ Instr.wellFormed Config.default .irq1 = true := by
  decide +kernel

/-- With the mirrors on, a mirrored transfer id is not unknown (R108). -/
theorem test_wellFormed_refuses_unknown_mirror :
    Instr.wellFormed mirrors .unknown81 = false ∧ Instr.wellFormed mirrors .unknownBF = false ∧
    Instr.wellFormed mirrors .unknownDF = false ∧ Instr.wellFormed mirrors .unknownE0 = true := by decide +kernel

/-- A command that carries no id is encoded with the lowest id of its handler (log 21). -/
theorem test_encode_lowest_id :
    encode Config.default (.fill 0xFF8040 ⟨1008, 511⟩ ⟨20, 2⟩) = [0x02FF8040, 0x01FF03F0, 0x00020014] ∧
    encode Config.default .irq1 = [0x1F000000] ∧ encode (withEntry 0x10 (some ⟨.fixed 1, .irq1⟩)) .irq1 = [0x10000000] ∧
    encode (withEntry 0x10 (some ⟨.fixed 2, .irq1⟩)) .irq1 = [0x1F000000] := by decide +kernel

/-! ### Decoding of words written out from the encoding tables -/

/-- Every list of words decodes, with no word left, to its command. -/
def reads (rows : List (List Word × Instr)) : Bool :=
  rows.all fun r => match decodeGP0 Config.default r.1 with
    | .ok (i, []) => i == r.2
    | _ => false

/-- The same with the transfer mirrors on. -/
def readsMirrors (rows : List (List Word × Instr)) : Bool :=
  rows.all fun r => match decodeGP0 mirrors r.1 with
    | .ok (i, []) => i == r.2
    | _ => false

/-- Every control word decodes to its command. -/
def readsControl (rows : List (Word × Instr)) : Bool :=
  rows.all fun r => decodeGP1 r.1 == r.2

/-- The examples of R131, R134, R135, R137, R138 and R141. -/
theorem test_readers :
    cmdId 0x20000000 = 0x20 ∧ cmdId 0xE403BD3F = 0xE4 ∧ channels (colour24 0x02FF8040) = (0x40, 0x80, 0xFF) ∧
    sizeFieldsOf 0x00020014 = ⟨20, 2⟩ ∧ sizeFieldsOf 0xFFFFFFFF = ⟨1023, 511⟩ ∧ uvOf 0x7FC01234 = ⟨0x34, 0x12⟩ ∧
    highHalf 0x7FC01234 = 0x7FC0 ∧ posOf 0x01FF03FF = ⟨1023, 511⟩ ∧ posOf 0x02000400 = ⟨0, 0⟩ := by decide

/-- Words of the polygon formats, every ignored bit set (R102, R151 to R158). -/
theorem test_decode_polygons : reads
  [([0x22123456, 0xFFFEF801, 0xF804FFFD, 0xFFFAF805], .polyF3 0b001000 0b10 0x123456 ⟨1, 2046⟩ ⟨2045, 4⟩ ⟨5, 2042⟩),
   ([0x25123456, 0xFFFEF801, 0xABCD2211, 0xF804FFFD, 0x09254433, 0xFFFAF805, 0xFFFF6655], .polyFT3 0b001001 0b01 0x123456 ⟨1, 2046⟩ ⟨17, 34⟩ 0xABCD ⟨2045, 4⟩ ⟨51, 68⟩ 0x0925 ⟨5, 2042⟩ ⟨85, 102⟩),
   ([0x29123456, 0xFFFEF801, 0xF804FFFD, 0xFFFAF805, 0xF808FFF9], .polyF4 0b001010 0b01 0x123456 ⟨1, 2046⟩ ⟨2045, 4⟩ ⟨5, 2042⟩ ⟨2041, 8⟩),
   ([0x2F123456, 0xFFFEF801, 0xABCD2211, 0xF804FFFD, 0x09254433, 0xFFFAF805, 0xFFFF6655, 0xF808FFF9, 0xFFFF8877], .polyFT4 0b001011 0b11 0x123456 ⟨1, 2046⟩ ⟨17, 34⟩ 0xABCD ⟨2045, 4⟩ ⟨51, 68⟩ 0x0925 ⟨5, 2042⟩ ⟨85, 102⟩ ⟨2041, 8⟩ ⟨119, 136⟩),
   ([0x32102030, 0xFFFEF801, 0xFF405060, 0xF804FFFD, 0xFF708090, 0xFFFAF805], .polyG3 0b001100 0b10 0x102030 ⟨1, 2046⟩ 0x405060 ⟨2045, 4⟩ 0x708090 ⟨5, 2042⟩),
   ([0x34102030, 0xFFFEF801, 0xABCD2211, 0xFF405060, 0xF804FFFD, 0x09254433, 0xFF708090, 0xFFFAF805, 0xFFFF6655], .polyGT3 0b001101 0b00 0x102030 ⟨1, 2046⟩ ⟨17, 34⟩ 0xABCD 0x405060 ⟨2045, 4⟩ ⟨51, 68⟩ 0x0925 0x708090 ⟨5, 2042⟩ ⟨85, 102⟩),
   ([0x39102030, 0xFFFEF801, 0xFF405060, 0xF804FFFD, 0xFF708090, 0xFFFAF805, 0xFFA0B0C0, 0xF808FFF9], .polyG4 0b001110 0b01 0x102030 ⟨1, 2046⟩ 0x405060 ⟨2045, 4⟩ 0x708090 ⟨5, 2042⟩ 0xA0B0C0 ⟨2041, 8⟩),
   ([0x3E102030, 0xFFFEF801, 0xABCD2211, 0xFF405060, 0xF804FFFD, 0x09254433, 0xFF708090, 0xFFFAF805, 0xFFFF6655, 0xFFA0B0C0, 0xF808FFF9, 0xFFFF8877], .polyGT4 0b001111 0b10 0x102030 ⟨1, 2046⟩ ⟨17, 34⟩ 0xABCD 0x405060 ⟨2045, 4⟩ ⟨51, 68⟩ 0x0925 0x708090 ⟨5, 2042⟩ ⟨85, 102⟩ 0xA0B0C0 ⟨2041, 8⟩ ⟨119, 136⟩)] = true := by
  decide +kernel

/-- Words of the line formats; words 1 and 2 of a mono poly-line, and a vertex word of a shaded one, may look like terminators (R171 to R174, T24, T27). -/
theorem test_decode_lines : reads
  [([0x46123456, 0xFFFEF801, 0xF804FFFD], .lineF2 0b010001 true false 0x123456 ⟨1, 2046⟩ ⟨2045, 4⟩),
   ([0x51102030, 0xFFFEF801, 0xFF405060, 0xF804FFFD], .lineG2 0b010100 false true 0x102030 ⟨1, 2046⟩ 0x405060 ⟨2045, 4⟩),
   ([0x4B123456, 0x55555555, 0x50005000, 0xFFFAF805, 0x5FFF5FFF], .plineF 0b010010 true true 0x123456 [⟨1365, 1365⟩, ⟨0, 0⟩, ⟨5, 2042⟩] true),
   ([0x5C102030, 0xFFFEF801, 0x55555555, 0x50005000, 0x55555555], .plineG 0b010111 false false [(0x102030, ⟨1, 2046⟩), (0x555555, ⟨0, 0⟩)] true)] = true := by
  decide +kernel

/-- Words of the tile and sprite formats (R181 to R188). -/
theorem test_decode_rectangles : reads
  [([0x62123456, 0xFFFEF801, 0xFFFFFFFF], .tile 0b011000 0b10 0x123456 ⟨1, 2046⟩ ⟨1023, 511⟩),
   ([0x65123456, 0xFFFEF801, 0xABCD2211, 0xFFF4FC03], .sprt 0b011001 0b01 0x123456 ⟨1, 2046⟩ ⟨17, 34⟩ 0xABCD ⟨3, 500⟩),
   ([0x6A123456, 0xFFFEF801], .tile1 0b011010 0b10 0x123456 ⟨1, 2046⟩),
   ([0x6D123456, 0xF804FFFD, 0xABCD4433], .sprt1 0b011011 0b01 0x123456 ⟨2045, 4⟩ ⟨51, 68⟩ 0xABCD),
   ([0x72123456, 0xFFFEF801], .tile8 0b011100 0b10 0x123456 ⟨1, 2046⟩),
   ([0x75123456, 0xF804FFFD, 0xABCD4433], .sprt8 0b011101 0b01 0x123456 ⟨2045, 4⟩ ⟨51, 68⟩ 0xABCD),
   ([0x7A123456, 0xFFFEF801], .tile16 0b011110 0b10 0x123456 ⟨1, 2046⟩),
   ([0x7D123456, 0xF804FFFD, 0xABCD4433], .sprt16 0b011111 0b01 0x123456 ⟨2045, 4⟩ ⟨51, 68⟩ 0xABCD)] = true := by
  decide +kernel

/-- Words of the fill, transfer and attribute formats (R201 to R206, R221 to R227). -/
theorem test_decode_image_and_attribute : reads
  [([0x02123456, 0xFFFFFFF0, 0xFE02FC14], .fill 0x123456 ⟨1008, 511⟩ ⟨20, 2⟩),
   ([0x80FFFFFF, 0xFE02FC01, 0xFE04FC03, 0xFE06FC05], .move 0x80 ⟨1, 2⟩ ⟨3, 4⟩ ⟨5, 6⟩),
   ([0xA0FFFFFF, 0xFE02FC01, 0xFE06FC05], .load 0xA0 ⟨1, 2⟩ ⟨5, 6⟩),
   ([0xC0FFFFFF, 0xFE04FC03, 0xFE00FC00], .store 0xC0 ⟨3, 4⟩ ⟨0, 0⟩),
   ([0x1FABCDEF], .irq1),
   ([0xE1FFEC2B], .texpage 0x42B true 2),
   ([0xE1000800], .texpage 0 true 0),
   ([0xE2F12345], .texwin 0x12345),
   ([0xE3F84010], .drawareaTL 0x04010),
   ([0xE4FBBD3F], .drawareaBR 0x3BD3F),
   ([0xE5C80140], .drawofs 0x080140),
   ([0xE6FFFFFE], .maskset false true)] = true := by
  decide +kernel

/-- With the transfer mirrors on (R108). -/
theorem test_decode_mirrors : readsMirrors
  [([0x9FFFFFFF, 0xFE02FC01, 0xFE04FC03, 0xFE06FC05], .move 0x9F ⟨1, 2⟩ ⟨3, 4⟩ ⟨5, 6⟩),
   ([0xA1FFFFFF, 0xFE02FC01, 0xFE06FC05], .load 0xA1 ⟨1, 2⟩ ⟨5, 6⟩),
   ([0xDEFFFFFF, 0xFE04FC03, 0xFE00FC00], .store 0xDE ⟨3, 4⟩ ⟨0, 0⟩)] = true := by
  decide +kernel

/-- Unknown rendering ids are one word (R110). -/
theorem test_decode_unknown_low : reads
  [([0x00FFFFFF], .unknown00), ([0x01FFFFFF], .unknown01), ([0x03FFFFFF], .unknown03), ([0x04FFFFFF], .unknown04),
   ([0x05FFFFFF], .unknown05), ([0x06FFFFFF], .unknown06), ([0x07FFFFFF], .unknown07), ([0x08FFFFFF], .unknown08),
   ([0x09FFFFFF], .unknown09), ([0x0AFFFFFF], .unknown0A), ([0x0BFFFFFF], .unknown0B), ([0x0CFFFFFF], .unknown0C),
   ([0x0DFFFFFF], .unknown0D), ([0x0EFFFFFF], .unknown0E), ([0x0FFFFFFF], .unknown0F), ([0x10FFFFFF], .unknown10),
   ([0x11FFFFFF], .unknown11), ([0x12FFFFFF], .unknown12), ([0x13FFFFFF], .unknown13), ([0x14FFFFFF], .unknown14),
   ([0x15FFFFFF], .unknown15), ([0x16FFFFFF], .unknown16), ([0x17FFFFFF], .unknown17), ([0x18FFFFFF], .unknown18),
   ([0x19FFFFFF], .unknown19), ([0x1AFFFFFF], .unknown1A), ([0x1BFFFFFF], .unknown1B), ([0x1CFFFFFF], .unknown1C),
   ([0x1DFFFFFF], .unknown1D), ([0x1EFFFFFF], .unknown1E)] = true := by
  decide +kernel

/-- Unknown rendering ids, continued (R110). -/
theorem test_decode_unknown_middle : reads
  [([0x81FFFFFF], .unknown81), ([0x82FFFFFF], .unknown82), ([0x83FFFFFF], .unknown83), ([0x84FFFFFF], .unknown84),
   ([0x85FFFFFF], .unknown85), ([0x86FFFFFF], .unknown86), ([0x87FFFFFF], .unknown87), ([0x88FFFFFF], .unknown88),
   ([0x89FFFFFF], .unknown89), ([0x8AFFFFFF], .unknown8A), ([0x8BFFFFFF], .unknown8B), ([0x8CFFFFFF], .unknown8C),
   ([0x8DFFFFFF], .unknown8D), ([0x8EFFFFFF], .unknown8E), ([0x8FFFFFFF], .unknown8F), ([0x90FFFFFF], .unknown90),
   ([0x91FFFFFF], .unknown91), ([0x92FFFFFF], .unknown92), ([0x93FFFFFF], .unknown93), ([0x94FFFFFF], .unknown94),
   ([0x95FFFFFF], .unknown95), ([0x96FFFFFF], .unknown96), ([0x97FFFFFF], .unknown97), ([0x98FFFFFF], .unknown98),
   ([0x99FFFFFF], .unknown99), ([0x9AFFFFFF], .unknown9A), ([0x9BFFFFFF], .unknown9B), ([0x9CFFFFFF], .unknown9C),
   ([0x9DFFFFFF], .unknown9D), ([0x9EFFFFFF], .unknown9E), ([0x9FFFFFFF], .unknown9F), ([0xA1FFFFFF], .unknownA1),
   ([0xA2FFFFFF], .unknownA2), ([0xA3FFFFFF], .unknownA3), ([0xA4FFFFFF], .unknownA4), ([0xA5FFFFFF], .unknownA5),
   ([0xA6FFFFFF], .unknownA6), ([0xA7FFFFFF], .unknownA7), ([0xA8FFFFFF], .unknownA8), ([0xA9FFFFFF], .unknownA9),
   ([0xAAFFFFFF], .unknownAA), ([0xABFFFFFF], .unknownAB), ([0xACFFFFFF], .unknownAC), ([0xADFFFFFF], .unknownAD),
   ([0xAEFFFFFF], .unknownAE), ([0xAFFFFFFF], .unknownAF), ([0xB0FFFFFF], .unknownB0), ([0xB1FFFFFF], .unknownB1),
   ([0xB2FFFFFF], .unknownB2), ([0xB3FFFFFF], .unknownB3), ([0xB4FFFFFF], .unknownB4), ([0xB5FFFFFF], .unknownB5),
   ([0xB6FFFFFF], .unknownB6), ([0xB7FFFFFF], .unknownB7), ([0xB8FFFFFF], .unknownB8), ([0xB9FFFFFF], .unknownB9),
   ([0xBAFFFFFF], .unknownBA), ([0xBBFFFFFF], .unknownBB), ([0xBCFFFFFF], .unknownBC), ([0xBDFFFFFF], .unknownBD),
   ([0xBEFFFFFF], .unknownBE), ([0xBFFFFFFF], .unknownBF)] = true := by
  decide +kernel

/-- Unknown rendering ids, continued (R110). -/
theorem test_decode_unknown_high : reads
  [([0xC1FFFFFF], .unknownC1), ([0xC2FFFFFF], .unknownC2), ([0xC3FFFFFF], .unknownC3), ([0xC4FFFFFF], .unknownC4),
   ([0xC5FFFFFF], .unknownC5), ([0xC6FFFFFF], .unknownC6), ([0xC7FFFFFF], .unknownC7), ([0xC8FFFFFF], .unknownC8),
   ([0xC9FFFFFF], .unknownC9), ([0xCAFFFFFF], .unknownCA), ([0xCBFFFFFF], .unknownCB), ([0xCCFFFFFF], .unknownCC),
   ([0xCDFFFFFF], .unknownCD), ([0xCEFFFFFF], .unknownCE), ([0xCFFFFFFF], .unknownCF), ([0xD0FFFFFF], .unknownD0),
   ([0xD1FFFFFF], .unknownD1), ([0xD2FFFFFF], .unknownD2), ([0xD3FFFFFF], .unknownD3), ([0xD4FFFFFF], .unknownD4),
   ([0xD5FFFFFF], .unknownD5), ([0xD6FFFFFF], .unknownD6), ([0xD7FFFFFF], .unknownD7), ([0xD8FFFFFF], .unknownD8),
   ([0xD9FFFFFF], .unknownD9), ([0xDAFFFFFF], .unknownDA), ([0xDBFFFFFF], .unknownDB), ([0xDCFFFFFF], .unknownDC),
   ([0xDDFFFFFF], .unknownDD), ([0xDEFFFFFF], .unknownDE), ([0xDFFFFFFF], .unknownDF), ([0xE0FFFFFF], .unknownE0),
   ([0xE7FFFFFF], .unknownE7), ([0xE8FFFFFF], .unknownE8), ([0xE9FFFFFF], .unknownE9), ([0xEAFFFFFF], .unknownEA),
   ([0xEBFFFFFF], .unknownEB), ([0xECFFFFFF], .unknownEC), ([0xEDFFFFFF], .unknownED), ([0xEEFFFFFF], .unknownEE),
   ([0xEFFFFFFF], .unknownEF), ([0xF0FFFFFF], .unknownF0), ([0xF1FFFFFF], .unknownF1), ([0xF2FFFFFF], .unknownF2),
   ([0xF3FFFFFF], .unknownF3), ([0xF4FFFFFF], .unknownF4), ([0xF5FFFFFF], .unknownF5), ([0xF6FFFFFF], .unknownF6),
   ([0xF7FFFFFF], .unknownF7), ([0xF8FFFFFF], .unknownF8), ([0xF9FFFFFF], .unknownF9), ([0xFAFFFFFF], .unknownFA),
   ([0xFBFFFFFF], .unknownFB), ([0xFCFFFFFF], .unknownFC), ([0xFDFFFFFF], .unknownFD), ([0xFEFFFFFF], .unknownFE),
   ([0xFFFFFFFF], .unknownFF)] = true := by
  decide +kernel

/-- Control words, raw ids of all four mirrors (R111, R112, R271, R282). -/
theorem test_decode_control : readsControl
  [(0x00654321, .cReset 0 0x654321), (0x41654321, .cClearfifo 1 0x654321), (0x82654321, .cAckirq 2 0x654321),
   (0xC3654321, .cDispen 3 0x654321), (0x04654321, .cDmadir 0 0x654321), (0x45654321, .cDisporg 1 0x654321),
   (0x86654321, .cHrange 2 0x654321), (0xC7654321, .cVrange 3 0x654321), (0x08654321, .cDispmode 0 0x654321),
   (0x49654321, .cTexdis 1 0x654321), (0x10ABCDEF, .cGpuinfo 0 0 0xABCDEF), (0xDF000007, .cGpuinfo 3 15 7),
   (0x5A000002, .cGpuinfo 1 10 2), (0x0A00000F, .cUnknown0A 0 0x0F), (0x4B000010, .cUnknown0B 1 0x10),
   (0x8C000011, .cUnknown0C 2 0x11), (0xCD000012, .cUnknown0D 3 0x12), (0x0E000013, .cUnknown0E 0 0x13),
   (0x4F000014, .cUnknown0F 1 0x14), (0xA0000015, .cUnknown20 2 0x15), (0xE1000016, .cUnknown21 3 0x16),
   (0x22000017, .cUnknown22 0 0x17), (0x63000018, .cUnknown23 1 0x18), (0xA4000019, .cUnknown24 2 0x19),
   (0xE500001A, .cUnknown25 3 0x1A), (0x2600001B, .cUnknown26 0 0x1B), (0x6700001C, .cUnknown27 1 0x1C),
   (0xA800001D, .cUnknown28 2 0x1D), (0xE900001E, .cUnknown29 3 0x1E), (0x2A00001F, .cUnknown2A 0 0x1F),
   (0x6B000020, .cUnknown2B 1 0x20), (0xAC000021, .cUnknown2C 2 0x21), (0xED000022, .cUnknown2D 3 0x22),
   (0x2E000023, .cUnknown2E 0 0x23), (0x6F000024, .cUnknown2F 1 0x24), (0xB0000025, .cUnknown30 2 0x25),
   (0xF1000026, .cUnknown31 3 0x26), (0x32000027, .cUnknown32 0 0x27), (0x73000028, .cUnknown33 1 0x28),
   (0xB4000029, .cUnknown34 2 0x29), (0xF500002A, .cUnknown35 3 0x2A), (0x3600002B, .cUnknown36 0 0x2B),
   (0x7700002C, .cUnknown37 1 0x2C), (0xB800002D, .cUnknown38 2 0x2D), (0xF900002E, .cUnknown39 3 0x2E),
   (0x3A00002F, .cUnknown3A 0 0x2F), (0x7B000030, .cUnknown3B 1 0x30), (0xBC000031, .cUnknown3C 2 0x31),
   (0xFD000032, .cUnknown3D 3 0x32), (0x3E000033, .cUnknown3E 0 0x33), (0x7F000034, .cUnknown3F 1 0x34)] = true := by
  decide +kernel

/-- The decoder stops inside a command, and before one (R113). -/
theorem test_decode_incomplete :
    decodeGP0 Config.default [0x20000000, 0, 0] = .error .truncated ∧ decodeGP0 Config.default [] = .error .empty := by
  decide +kernel

/-- Under other tables: an id of its own for a handler, with a word its handler does not read; a row shorter than its handler reads; a
named id made unknown (R8, R242, log 26). -/
theorem test_decode_other_tables :
    decodeGP0 (withEntry 0x00 (some ⟨.fixed 5, .polyF3⟩)) [0x00123456, 1, 2, 3, 4, 5] =
      .ok (.polyF3 0b000000 0b00 0x123456 ⟨1, 0⟩ ⟨2, 0⟩ ⟨3, 0⟩, [5]) ∧
    decodeGP0 (withEntry 0x00 (some ⟨.fixed 3, .polyF3⟩)) [0x00123456, 1, 2] = .error .shortEntry ∧
    decodeGP0 (withEntry 0x20 none) [0x20000000] = .error .unlistedUnknown := by decide +kernel

/-- What the host asks of a table row's bits: one word, several words, and a poly-line whose operand bits are zeros. -/
theorem test_decodeTableWord :
    decodeTableWord 32 0xE6000003 = some (.maskset true true) ∧
    decodeTableWord 128 0x000500060003000400010002807F0000 = some (.move 0x80 ⟨2, 1⟩ ⟨4, 3⟩ ⟨6, 5⟩) ∧
    decodeTableWord 32 0x48000000 = some (.plineF 0b010010 false false 0 (List.replicate 253 ⟨0, 0⟩) false) := by decide +kernel

/-! ### One step -/

/-- `f` of the next state, if there is one. -/
def pick {α : Type} (r : Result) (f : State → α) : Option α :=
  match r with
  | .next t => some (f t)
  | .fault _ => none
  | .refused _ => none

/-- Where `pick` finds something there is a next state. -/
theorem exists_next_of_pick {α : Type} {r : Result} {f : State → α} {a : α} (h : pick r f = some a) : ∃ t, r = .next t := by
  cases r with
  | next t => exact ⟨t, rfl⟩
  | fault _ => cases h
  | refused _ => cases h

/-- The state after reset with one port operation pending. -/
def given (op : PortOp) : State := { State.reset with inputs := [op] }

/-- The state after reset with the words of one command, its last one pending. -/
def fed (buffered : List Word) (last : Word) : State := { State.reset with cmdbuf := buffered, inputs := [.writeGP0 last] }

/-- The very next step runs the placed command: one word, several words, and a poly-line of zeros. -/
theorem test_withFetchWord :
    pick (step (State.reset.withFetchWord 32 0xE6000003)) (fun t => (t.csr, t.inputs)) = some (0x14803800, []) ∧
    pick (step (State.reset.withFetchWord 32 0xA0000000)) (fun t => (t.wmode, t.bufcnt)) = some (.passthrough, 0) ∧
    pick (step (State.reset.withFetchWord 32 0x58000000)) (fun t => (t.bufcnt, t.out.length)) = some (0, 1) ∧
    pick (step (State.reset.withFetchWord 32 0x03000000)) (fun t => decide (t = State.reset)) = some true := by decide +kernel

/-- The last word of the flat triangle of T1. -/
theorem test_triangle : pick (step (fed [0x20000000, 0x00100010, 0x00200020] 0x00300030)) (fun t => (t.bufcnt, t.out.map (·.1))) =
    some (0, [.poly ⟨0x20, 3, false, false, false, false, [(16, 16), (32, 32), (48, 48)], [0, 0, 0], none⟩]) := by
  decide +kernel

/-- The word before it only fills the buffer (T1). -/
theorem test_triangle_waits : pick (step (fed [0x20000000, 0x00100010] 0x00200020)) (fun t => (t.bufcnt, t.out.length)) =
    some (3, 0) := by decide +kernel

/-- Word 2 of a mono poly-line is a vertex though it looks like a terminator; word 3 ends it (T24). -/
theorem test_polyline_terminator :
    pick (step (fed [0x48FF0000, 0x55555555] 0x50005000)) State.bufcnt = some 3 ∧
    pick (step (fed [0x48FF0000, 0x55555555, 0x50005000] 0x55555555)) (fun t => t.out.map (·.1)) =
      some [.line ⟨0x48, false, true, false, 2, [(-683, -683), (0, 0)], [0xFF0000, 0xFF0000], some true⟩] := by decide +kernel

/-- The 254th word of a mono poly-line ends it, with 253 vertices (T25). -/
theorem test_polyline_forced_end :
    pick (step (fed (0x48000000 :: List.replicate 252 0x00010001) 0x00010001)) (fun t => t.out.map (·.1)) =
      some [.line ⟨0x48, false, true, false, 253, List.replicate 253 (1, 1), List.replicate 253 0, some false⟩] := by
  decide +kernel

/-- Sizes of zero stay zero in a rectangle's record (T40). -/
theorem test_tile_zero_size : pick (step (fed [0x60FFFFFF, 0] 0)) (fun t => t.out.map (·.1)) =
    some [.rect ⟨0x60, false, false, false, 0, 0xFFFFFF, (0, 0), 0, 0, none, none⟩] := by decide +kernel

/-- A sprite with every bit of its texture word set (T42). -/
theorem test_sprite : pick (step (fed [0x6F808080, 0] 0xFFFFFFFF)) (fun t => t.out.map (·.1)) =
    some [.rect ⟨0x6F, true, true, true, 1, 0x808080, (0, 0), 1, 1, some ⟨255, 255⟩, some 0xFFFF⟩] := by decide +kernel

/-- `TEXPAGE` with all operand bits set leaves `TXD` clear, unless texture disable is allowed (R221). -/
theorem test_texpage :
    pick (step (given (.writeGP0 0xE1003FFF))) (fun t => (t.csr, t.texflip)) = some (0x148027FF, 3) ∧
    pick (step { given (.writeGP0 0xE1003FFF) with texdisAllow := true }) (fun t => t.csr) = some 0x1480A7FF := by
  decide +kernel

/-- `IRQ1` sets bit 24 whatever its operand (R227). -/
theorem test_irq1 : pick (step (given (.writeGP0 0x1FABCDEF))) (fun t => t.csr) = some 0x15802000 := by decide +kernel

/-- A display mode under a mirrored id: the status, the history entry of the raw id, and not the other one (R270, R280). -/
theorem test_dispmode : pick (step (given (.writeGP1 0x48000009))) (fun t => (t.csr, t.ctrlhist[0x48], t.ctrlhist[8])) =
    some (0x14922000, 0x48000009, 0) := by decide +kernel

/-- All the bits of a display mode (R280). -/
theorem test_dispmode_all : pick (step (given (.writeGP1 0x080000FF))) (fun t => t.csr) = some 0x14FF6000 := by decide +kernel

/-- A DMA direction (R276). -/
theorem test_dmadir : pick (step (given (.writeGP1 0x04000002))) (fun t => t.csr) = some 0x54802000 := by decide +kernel

/-- The version word, under an id of the middle of the band; an unlisted index (R283). -/
theorem test_gpuinfo :
    pick (step (given (.writeGP1 0x17000007))) (fun t => t.readback) = some 2 ∧
    pick (step { given (.writeGP1 0x10000000) with readback := 9 }) (fun t => t.readback) = some 9 := by decide +kernel

/-- The busy reads: bit 26 reads as 0 and the counter goes down (R303). -/
theorem test_busy : pick (step { given .readStatus with busycnt := 2 }) (fun t => (t.busycnt, t.replies)) =
    some (1, [.status 0x10802000]) := by decide +kernel

/-- An unknown id leaves the state as it was but for the word taken (R110). -/
theorem test_unknown : pick (step (given (.writeGP0 0x03FFFFFF))) (fun t => decide (t = State.reset)) = some true := by
  decide +kernel

/-- A control command in the middle of a rendering command: the buffer stays (R270). -/
theorem test_control_interleaves :
    pick (step { fed [0x20000000, 0] 0 with inputs := [.writeGP1 0x04000001] }) (fun t => (t.bufcnt, t.csr)) =
      some (2, 0x34802000) := by decide +kernel

/-- A transfer word that looks like a command is data, and the last one ends the mode (T36). -/
theorem test_passthrough :
    pick (step { given (.writeGP0 0xE6000003) with wmode := .passthrough, wcur := ⟨1023, 511, 2, 1, 0, 0, 1⟩ })
      (fun t => (t.wmode, t.csr)) = some (.framing, 0x14802000) := by decide +kernel

/-- The two halves of a transfer word, low half first, the second past the right edge of VRAM (R71, R205, T36). -/
theorem test_passthrough_texels (s : State) (h : s.wcur = ⟨1023, 511, 2, 1, 0, 0, 1⟩) (hw : s.vram.wf)
    (hm : s.csr = 0x14802000) : (s.passthroughWord 0x22221111).vram.read 1023 511 = 0x1111 ∧
      (s.passthroughWord 0x22221111).vram.read 0 511 = 0x2222 := by
  have h1 := State.wf_storeHalf hw ((0x22221111 : Word).extractLsb' 0 16)
  rw [State.passthroughWord_eq]
  simp only [State.storeHalf_vram, State.storeHalf_wcur, State.storeHalf_csr, h, hm] at h1 ⊢
  norm_num [Cursor.x, Cursor.y, Cursor.advance] at h1 ⊢
  rw [Vram.read_writeMasked _ h1, Vram.read_writeMasked _ h1]
  simp [Vram.read_writeMasked _ hw, maskedResult, Csr.me, Csr.md]

/-- What the policy stores: a protected texel stays, bit 15 is forced (T43). -/
theorem test_mask_policy :
    maskedResult 0x14803800 0x8001 0x5678 = 0x8001 ∧ maskedResult 0x14803800 0x0002 0x1234 = 0x9234 ∧
    maskedResult 0x14802000 0x8001 0x5678 = 0x5678 := by decide

/-- A read transfer of one texel: the unused half reads as zero, and the transfer is closed (R85, R207). -/
theorem test_read_transfer :
    pick (step { given .readData with rmode := .vramRead, csr := 0x1C802000, rcur := ⟨5, 6, 1, 1, 0, 0, 1⟩ })
      (fun t => (t.rmode, t.csr)) = some (.normal, 0x14802000) := by decide +kernel

/-- A table R8 forbids, and a range that would let a lasting effect be skipped, are refused at the first step (R8, U16). -/
theorem test_refused_config :
    step { State.reset with cfg := withEntry 0x20 (some ⟨.fixed 257, .polyF3⟩) } = .refused .illFormedConfig ∧
    step { State.reset with cfg := withSkip 0x00 0x7F } = .refused .illFormedConfig := by
  have h : ∀ s : State, s.cfg.wf = false → step s = .refused .illFormedConfig := fun s hs => by simp [step, hs]
  exact ⟨h _ (by decide +kernel), h _ (by decide +kernel)⟩

/-- Under another table: its own id and length for a handler, the last word ignored (R8, R248). -/
theorem test_other_table :
    pick (step { fed [0x03000000, 0x00100010, 0x00200020, 0x00300030] 7 with cfg := withEntry 0x03 (some ⟨.fixed 5, .polyF3⟩) })
      (fun t => (t.bufcnt, t.freeCount, t.out.map (·.1))) =
        some (0, 1, [.poly ⟨0x03, 3, false, false, true, true, [(16, 16), (32, 32), (48, 48)], [0, 0, 0], none⟩]) := by
  decide +kernel

/-- A row shorter than its handler reads: the stored words are used, free values are drawn for the others (U3, log 26). -/
theorem test_short_row :
    pick (step { fed [0x20000000] 0x00100010 with cfg := withEntry 0x20 (some ⟨.fixed 2, .polyF3⟩) })
      (fun t => (t.bufcnt, t.freeCount, t.out.length)) = some (0, 2, 1) := by decide +kernel

/-- A named id that the table leaves unknown is discarded (R8, R242). -/
theorem test_unlisted_unknown :
    pick (step { given (.writeGP0 0x20FFFFFF) with cfg := withEntry 0x20 none })
      (fun t => decide (t = { State.reset with cfg := withEntry 0x20 none })) = some true := by decide +kernel

/-! ### Witnesses: the hypotheses of each statement are met -/

theorem witness_StepRunsDecodedCommand_known :
    ∃ (s : State) (i : Instr), s.cfg.wf = true ∧ s.wmode = .framing ∧ s.inputs = .writeGP0 0x00300030 :: [.readStatus] ∧
      decodeGP0 s.cfg (s.cmdbuf ++ [0x00300030]) = .ok (i, []) ∧ i.isUnknown = false ∧
      (s.frameskip && s.cfg.skippable (cmdId ((s.cmdbuf ++ [0x00300030]).headD 0))) = false := by
  exact ⟨{ fed [0x20000000, 0x00100010, 0x00200020] 0 with inputs := [.writeGP0 0x00300030, .readStatus] },
    .polyF3 0b001000 0b00 0 ⟨16, 16⟩ ⟨32, 32⟩ ⟨48, 48⟩, Config.default_wf, rfl, rfl, by decide +kernel, rfl, rfl⟩

theorem witness_StepRunsDecodedCommand_unskipped :
    ∃ (s : State) (i : Instr), s.cfg.wf = true ∧ s.wmode = .framing ∧ s.frameskip = true ∧ s.inputs = .writeGP0 0x00010010 :: [] ∧
      decodeGP0 s.cfg (s.cmdbuf ++ [0x00010010]) = .ok (i, []) ∧ i.isUnknown = false ∧
      (s.frameskip && s.cfg.skippable (cmdId ((s.cmdbuf ++ [0x00010010]).headD 0))) = false := by
  exact ⟨{ fed [0x02FFFFFF, 0] 0x00010010 with frameskip := true }, .fill 0xFFFFFF ⟨0, 0⟩ ⟨16, 1⟩, Config.default_wf, rfl, rfl, rfl,
    by decide +kernel, rfl, by decide +kernel⟩

theorem witness_StepRunsDecodedCommand_unknown :
    ∃ (s : State) (i : Instr), s.cfg.wf = true ∧ s.wmode = .framing ∧ s.inputs = .writeGP0 0x03000000 :: [] ∧
      decodeGP0 s.cfg (s.cmdbuf ++ [0x03000000]) = .ok (i, []) ∧ i.isUnknown = true := by
  exact ⟨given (.writeGP0 0x03000000), .unknown03, Config.default_wf, rfl, rfl, by decide +kernel, rfl⟩

theorem witness_StepRunsDecodedCommand_short_row :
    ∃ (s : State) (e : DispatchEntry) (ws : List Word), s.cfg.wf = true ∧ s.wmode = .framing ∧ s.inputs = .writeGP0 0x00100010 :: [] ∧
      s.cfg.entry (cmdId ((s.cmdbuf ++ [0x00100010]).headD 0)) = some e ∧
      frame e.length 0 (s.cmdbuf ++ [0x00100010]) = some (ws, false, []) ∧ ws.length < e.handler.words ∧
      (s.frameskip && s.cfg.skippable (cmdId ((s.cmdbuf ++ [0x00100010]).headD 0))) = false := by
  exact ⟨{ fed [0x20000000] 0x00100010 with cfg := withEntry 0x20 (some ⟨.fixed 2, .polyF3⟩) }, ⟨.fixed 2, .polyF3⟩,
    [0x20000000, 0x00100010], by decide +kernel, rfl, rfl, by decide +kernel, by decide +kernel, by decide, rfl⟩

theorem witness_StepRunsDecodedCommand_control :
    ∃ s : State, s.cfg.wf = true ∧ s.inputs = .writeGP1 0x48000009 :: [] := by
  exact ⟨given (.writeGP1 0x48000009), Config.default_wf, rfl⟩

theorem witness_StepBuffersOrSkips_truncated :
    ∃ s : State, s.cfg.wf = true ∧ s.wmode = .framing ∧ s.inputs = .writeGP0 0x00200020 :: [] ∧
      decodeGP0 s.cfg (s.cmdbuf ++ [0x00200020]) = .error .truncated := by
  exact ⟨fed [0x20000000, 0x00100010] 0x00200020, Config.default_wf, rfl, rfl, by decide +kernel⟩

theorem witness_StepBuffersOrSkips_skipped :
    ∃ (s : State) (e : DispatchEntry) (ws : List Word), s.cfg.wf = true ∧ s.wmode = .framing ∧ s.inputs = .writeGP0 0 :: [] ∧
      s.cfg.entry (cmdId ((s.cmdbuf ++ [0]).headD 0)) = some e ∧ frame e.length 0 (s.cmdbuf ++ [0]) = some (ws, false, []) ∧
      s.frameskip = true ∧ s.cfg.skippable (cmdId ((s.cmdbuf ++ [0]).headD 0)) = true := by
  exact ⟨{ fed [0x7F000000, 0] 0 with frameskip := true }, ⟨.fixed 3, .sprt16⟩, [0x7F000000, 0, 0], Config.default_wf, rfl, rfl,
    by decide +kernel, by decide +kernel, rfl, by decide +kernel⟩

theorem witness_StepTakesOnePortOperation_refused :
    (∃ s : State, s.cfg.tableWf = false ∧ s.cfg.skipWf = true) ∧ ∃ s : State, s.cfg.tableWf = true ∧ s.cfg.skipWf = false := by
  exact ⟨⟨{ State.reset with cfg := withEntry 0x20 (some ⟨.varF, .polyF3⟩) }, by decide +kernel, by decide +kernel⟩,
    ⟨{ State.reset with cfg := withSkip 0x1F 0x7F }, by decide +kernel, by decide +kernel⟩⟩

theorem witness_StepTakesOnePortOperation :
    (∃ s : State, s.cfg.wf = true ∧ s.inputs = []) ∧ (∃ s : State, s.cfg.wf = true ∧ s.inputs = .readStatus :: [.readData]) ∧
      ∃ s : State, s.cfg.wf = true ∧ s.inputs = .writeGP0 0xE6000003 :: [] ∧ s.wmode = .passthrough := by
  exact ⟨⟨State.reset, Config.default_wf, rfl⟩, ⟨{ State.reset with inputs := [.readStatus, .readData] }, Config.default_wf, rfl⟩,
    ⟨{ given (.writeGP0 0xE6000003) with wmode := .passthrough }, Config.default_wf, rfl, rfl⟩⟩

theorem witness_DecodeEncodeAgree :
    Instr.wellFormed Config.default (.plineF 0b010010 true true 1 (List.replicate 252 ⟨5, 6⟩) true) = true ∧
      Instr.wellFormed Config.default (.plineF 0b010010 true true 1 (List.replicate 253 ⟨5, 6⟩) false) = true ∧
      Instr.wellFormed Config.default (.plineG 0b010110 true true (List.replicate 127 (1, ⟨5, 6⟩)) true) = true ∧
      Instr.wellFormed Config.default (.plineG 0b010110 true true (List.replicate 127 (1, ⟨5, 6⟩)) false) = true ∧
      Instr.wellFormed mirrors (.load 0xBF ⟨1, 2⟩ ⟨3, 4⟩) = true ∧ Instr.wellFormed Config.default (.cGpuinfo 3 15 7) = true ∧
      Instr.wellFormed (withEntry 0x00 (some ⟨.fixed 4, .polyF3⟩)) (.polyF3 0b000000 0b00 1 ⟨1, 2⟩ ⟨3, 4⟩ ⟨5, 6⟩) = true := by
  decide +kernel

theorem witness_DecodedCommandsWellFormed :
    decode Config.default .gp0 [0xE6000001, 0x20000000] = .ok (.maskset true false, [0x20000000]) ∧
      decode Config.default .gp1 [0xC1000000] = .ok (.cClearfifo 3 0, []) ∧
      ∀ id, ∀ e ∈ Config.default.entry id, e.length = e.handler.length := by
  decide +kernel

theorem witness_StreamedCommandRunsOnce :
    ∃ i : Instr, State.reset.cfg.wf = true ∧ State.reset.wmode = .framing ∧ State.reset.cmdbuf = [] ∧ i.channel = .gp0 ∧
      i.wellFormed State.reset.cfg = true ∧ i.isUnknown = false ∧ (State.reset.frameskip = false ∨ i.isGeometry = false) := by
  exact ⟨.polyF3 0b001000 0b11 5 ⟨1, 2⟩ ⟨3, 4⟩ ⟨5, 6⟩, Config.default_wf, rfl, rfl, rfl, by decide +kernel, rfl, .inl rfl⟩

theorem witness_StreamedCommandRunsOnce_skipping :
    ∃ (s : State) (i : Instr), s.cfg.wf = true ∧ s.wmode = .framing ∧ s.cmdbuf = [] ∧ i.channel = .gp0 ∧
      i.wellFormed s.cfg = true ∧ i.isUnknown = false ∧ s.frameskip = true ∧ i.isGeometry = false := by
  exact ⟨{ State.reset with frameskip := true }, .load 0xA0 ⟨1, 2⟩ ⟨3, 4⟩, Config.default_wf, rfl, rfl, rfl, by decide +kernel, rfl,
    rfl, rfl⟩

theorem witness_SkippedGeometryConsumesItsWords :
    ∃ (s : State) (i : Instr), s.wmode = .framing ∧ s.cmdbuf = [] ∧ s.frameskip = true ∧ i.channel = .gp0 ∧ i.isUnknown = false ∧
      i.wellFormed s.cfg = true ∧ s.cfg.skippable (cmdId ((encode s.cfg i).headD 0)) = true := by
  exact ⟨{ State.reset with frameskip := true }, .plineG 0b010110 true false (List.replicate 127 (9, ⟨1, 2⟩)) false,
    rfl, rfl, rfl, rfl, rfl, by decide +kernel, by decide +kernel⟩

theorem witness_SkippedGeometryConsumesItsWords_table :
    ∃ (s : State) (i : Instr), s.wmode = .framing ∧ s.cmdbuf = [] ∧ s.frameskip = true ∧ i.channel = .gp0 ∧ i.isUnknown = false ∧
      i.wellFormed s.cfg = true ∧ s.cfg.skippable (cmdId ((encode s.cfg i).headD 0)) = true ∧ s.cfg.skipLo = 0xF0 := by
  exact ⟨{ State.reset with frameskip := true, cfg := { withEntry 0xF0 (some ⟨.fixed 3, .tile⟩) with skipLo := 0xF0, skipHi := 0xF0 } },
    .tile 0b111100 0b00 1 ⟨1, 2⟩ ⟨3, 4⟩, rfl, rfl, rfl, rfl, rfl, by decide +kernel, by decide +kernel, rfl⟩

theorem witness_SkippedGeometryConsumesItsWords_default :
    ∃ i j : Instr, (i.channel = .gp0 ∧ i.isUnknown = false ∧ i.wellFormed Config.default = true ∧ i.isGeometry = true) ∧
      j.channel = .gp0 ∧ j.isUnknown = false ∧ j.wellFormed Config.default = true ∧ j.isGeometry = false := by
  exact ⟨.polyF3 0b001000 0b00 0 ⟨0, 0⟩ ⟨0, 0⟩ ⟨0, 0⟩, .irq1, ⟨rfl, rfl, by decide +kernel, rfl⟩, rfl, rfl, by decide +kernel, rfl⟩

theorem witness_UnknownIdDiscardsOneWord :
    State.reset.wmode = .framing ∧ State.reset.cmdbuf = [] ∧ State.reset.cfg.entry (cmdId 0xFF000000) = none ∧
      State.reset.cfg.entry (cmdId 0x00000000) = none ∧ (withEntry 0x20 none).entry (cmdId 0x20000000) = none := by
  exact ⟨rfl, rfl, by decide +kernel, by decide +kernel, by decide +kernel⟩

theorem witness_MonoPolylineForcedEnd :
    State.reset.wmode = .framing ∧ State.reset.cmdbuf = [] ∧ State.reset.frameskip = false ∧ State.reset.cfg.entry (cmdId 0x4F000000) = some ⟨.varF, .plineF⟩ ∧
      (List.replicate 253 (0x00010001 : Word)).length = 253 ∧
      ∀ k, 2 ≤ k → k < 253 → isTerm ((List.replicate 253 (0x00010001 : Word)).getD k 0) = false := by
  refine ⟨rfl, rfl, rfl, by decide +kernel, List.length_replicate, fun k _ hk => ?_⟩
  rw [List.getD_eq_getElem?_getD, List.getElem?_replicate, if_pos (by omega)]
  decide

theorem witness_ShadedPolylineForcedEnd :
    State.reset.wmode = .framing ∧ State.reset.cmdbuf = [] ∧ State.reset.frameskip = false ∧ State.reset.cfg.entry (cmdId 0x58000000) = some ⟨.varG, .plineG⟩ ∧
      (List.replicate 254 (0x00010001 : Word)).length = 254 ∧
      ∀ k, 3 ≤ k → k < 254 → k % 2 = 1 → isTerm ((List.replicate 254 (0x00010001 : Word)).getD k 0) = false := by
  refine ⟨rfl, rfl, rfl, by decide +kernel, List.length_replicate, fun k _ hk _ => ?_⟩
  rw [List.getD_eq_getElem?_getD, List.getElem?_replicate, if_pos (by omega)]
  decide

theorem witness_StepKeepsInvariant :
    ∃ s t : State, s.Inv ∧ step s = .next t := by
  obtain ⟨t, h⟩ := exists_next_of_pick (show pick (step (given (.writeGP0 0xE6000003))) State.bufcnt = some 0 by decide +kernel)
  exact ⟨_, t, by decide +kernel, h⟩

theorem witness_StepKeepsInvariant_busy_transfer :
    State.Inv { State.reset with
      cfg := { Config.default with fakeBusyReads := 3 }, busycnt := 3, wmode := .passthrough, wcur := Cursor.start ⟨1023, 511⟩ ⟨0, 0⟩
      rmode := .vramRead, rcur := ⟨1023, 511, 3, 1, 2, 0, 1⟩ } := by
  decide +kernel

theorem witness_StepAlwaysDefined :
    State.Inv (fed (0x58000000 :: List.replicate 253 0x00010001) 0) := by
  decide +kernel

/-- With `extra = []`, the default table gives every one of these first words the handler `h` at `n` words. -/
def selected (h : Handler) (n : Nat) (ws : List Word) : Bool :=
  ws.all fun w => State.reset.cfg.entry (cmdId w) == some ⟨.fixed (n + ([] : List Word).length), h⟩

theorem witness_longer_rows :
    (withEntry 0x00 (some ⟨.fixed 6, .polyF3⟩)).entry (cmdId 0) = some ⟨.fixed (4 + ([7, 8] : List Word).length), .polyF3⟩ ∧
      (withEntry 0x00 (some ⟨.fixed 256, .texpage⟩)).entry (cmdId 0) =
        some ⟨.fixed (1 + (List.replicate 255 7 : List Word).length), .texpage⟩ := by
  decide +kernel

theorem witness_FlatPolygonsEmit :
    selected .polyF3 4 [0x20000000, 0x23FFFFFF] = true ∧
      selected .polyF4 5 [0x28000000, 0x2BFFFFFF] = true := by
  decide +kernel

theorem witness_FlatTexturedPolygonsEmit :
    selected .polyFT3 7 [0x24000000, 0x27FFFFFF] = true ∧
      selected .polyFT4 9 [0x2C000000, 0x2FFFFFFF] = true := by
  decide +kernel

theorem witness_ShadedPolygonsEmit :
    selected .polyG3 6 [0x30000000, 0x33FFFFFF] = true ∧
      selected .polyG4 8 [0x38000000, 0x3BFFFFFF] = true := by
  decide +kernel

theorem witness_ShadedTexturedPolygonsEmit :
    selected .polyGT3 9 [0x34000000, 0x37FFFFFF] = true ∧
      selected .polyGT4 12 [0x3C000000, 0x3FFFFFFF] = true := by
  decide +kernel

theorem witness_TexpageWritebackFollowsParameter :
    State.reset.cfg.polyTexpageWriteback = false ∧
      { Config.default with polyTexpageWriteback := true }.polyTexpageWriteback = true := by
  exact ⟨rfl, rfl⟩

theorem witness_FixedLinesEmit :
    selected .lineF2 3 [0x40000000, 0x47FFFFFF] = true ∧
      selected .lineG2 4 [0x50000000, 0x57FFFFFF] = true := by
  decide +kernel

theorem witness_CustomSizeRectanglesEmit :
    selected .tile 3 [0x60000000, 0x63FFFFFF] = true ∧
      selected .sprt 4 [0x64000000, 0x67FFFFFF] = true := by
  decide +kernel

theorem witness_FixedSizeRectanglesEmit :
    selected .tile1 2 [0x68000000, 0x6BFFFFFF] = true ∧
      selected .tile8 2 [0x70000000, 0x73FFFFFF] = true ∧
      selected .tile16 2 [0x78000000, 0x7BFFFFFF] = true ∧
      selected .sprt1 3 [0x6C000000, 0x6FFFFFFF] = true ∧
      selected .sprt8 3 [0x74000000, 0x77FFFFFF] = true ∧
      selected .sprt16 3 [0x7C000000, 0x7FFFFFFF] = true := by
  decide +kernel

theorem witness_TexelStoresFollowPolicy :
    State.reset.vram.wf ∧ (1023 + 1) % 1024 = 2048 % 1024 ∧ 511 % 512 = 1023 % 512 := by
  decide

theorem witness_FillOverwritesRectangle :
    State.reset.vram.wf ∧ selected .fill 3 [0x02FF8040] = true ∧ inRect 1008 511 32 2 1023 511 ∧ inRect 1008 511 32 2 15 0 ∧
      outsideRect 1008 511 1 2 (texelAddr 1009 511) := by
  exact ⟨by decide, by decide +kernel, ⟨15, by decide, 0, by decide, by decide⟩, ⟨31, by decide, 1, by decide, by decide⟩, by decide⟩

theorem witness_MoveCopiesRectangle :
    State.reset.vram.wf ∧ selected .move 4 [0x80000000, 0x80FFFFFF] = true ∧
      mirrors.entry (cmdId 0x9F000000) = some ⟨.fixed (4 + ([] : List Word).length), .move⟩ ∧
      (∀ x y, ¬(inRect 1023 511 2 1 x y ∧ inRect 1022 511 1 1 x y)) ∧ outsideRect 1023 511 2 2 (texelAddr 1022 511) := by
  refine ⟨by decide, by decide +kernel, by decide +kernel, ?_, by decide⟩
  rintro x y ⟨⟨i, hi, j, hj, hx, hy⟩, ⟨i', hi', j', hj', hx', hy'⟩⟩
  omega

theorem witness_OverlappingMoveReadsNewTexels :
    State.reset.vram.wf ∧ Csr.md State.reset.csr = false ∧ Csr.me State.reset.csr = false := by
  decide

theorem witness_TransferHeadersOpenTransfers :
    selected .load 3 [0xA0000000, 0xA0FFFFFF] = true ∧ selected .store 3 [0xC0000000, 0xC0FFFFFF] = true ∧
      mirrors.entry (cmdId 0xBF000000) = some ⟨.fixed (3 + ([] : List Word).length), .load⟩ ∧
      mirrors.entry (cmdId 0xDF000000) = some ⟨.fixed (3 + ([] : List Word).length), .store⟩ := by
  decide +kernel

theorem witness_LoadPayloadFillsRectangle :
    ∃ (s : State) (payload : List Word), s.vram.wf ∧ s.wmode = .passthrough ∧ s.wcur = Cursor.start ⟨1023, 511⟩ ⟨3, 1⟩ ∧
      payload.length = xferWords ⟨3, 1⟩ ∧ outsideRect 1023 511 3 1 (texelAddr 1022 511) ∧ payload = [0x22221111, 0xE6000003] := by
  exact ⟨{ State.reset with wmode := .passthrough, wcur := Cursor.start ⟨1023, 511⟩ ⟨3, 1⟩ }, [0x22221111, 0xE6000003],
    by decide, rfl, rfl, rfl, by decide, rfl⟩

theorem witness_LoadPayloadFillsRectangle_whole :
    ∃ (s : State) (payload : List Word), s.vram.wf ∧ s.wmode = .passthrough ∧ s.wcur = Cursor.start ⟨0, 0⟩ ⟨0, 0⟩ ∧
      payload.length = xferWords ⟨0, 0⟩ ∧ payload = List.replicate 262144 (0x55555555 : Word) := by
  exact ⟨{ State.reset with wmode := .passthrough, wcur := Cursor.start ⟨0, 0⟩ ⟨0, 0⟩ }, List.replicate 262144 0x55555555,
    by decide, rfl, rfl, by rw [List.length_replicate]; rfl, rfl⟩

theorem witness_StoreReadsRectangle :
    ∃ s : State, s.rmode = .vramRead ∧ s.rcur = Cursor.start ⟨1023, 511⟩ ⟨3, 1⟩ := by
  exact ⟨{ State.reset with rmode := .vramRead, rcur := Cursor.start ⟨1023, 511⟩ ⟨3, 1⟩ }, rfl, rfl⟩

theorem witness_TexpageWritesModeFields :
    selected .texpage 1 [0xE1000000, 0xE1FFFFFF] = true := by
  decide +kernel

theorem witness_ContextRegistersStoreOperand :
    selected .texwin 1 [0xE2FFFFFF] = true ∧ selected .drawareaTL 1 [0xE3FFFFFF] = true ∧
      selected .drawareaBR 1 [0xE4FFFFFF] = true ∧ selected .drawofs 1 [0xE5FFFFFF] = true := by
  decide +kernel

theorem witness_MaskAndIrqCommandsWriteTheirBits :
    selected .maskset 1 [0xE6000003] = true ∧ selected .irq1 1 [0x1F000000] = true := by
  decide +kernel

theorem witness_ControlResetRestoresRegisters :
    canonical (cmdId 0x00000000) = 0x00 ∧ canonical (cmdId 0xC0FFFFFF) = 0x00 := by
  decide

theorem witness_ClearFifoDropsPendingState :
    canonical (cmdId 0x01000000) = 0x01 ∧ canonical (cmdId 0xC1FFFFFF) = 0x01 := by
  decide

theorem witness_ControlFieldCommandsWriteTheirBits :
    canonical (cmdId 0x02000000) = 0x02 ∧ canonical (cmdId 0x43FFFFFF) = 0x03 ∧ canonical (cmdId 0xC4000003) = 0x04 := by
  decide

theorem witness_DisplayRegistersStoreOperand :
    canonical (cmdId 0x05000000) = 0x05 ∧ canonical (cmdId 0x46FFFFFF) = 0x06 ∧ canonical (cmdId 0x87FFFFFF) = 0x07 ∧
      canonical (cmdId 0xC9000001) = 0x09 := by
  decide

theorem witness_DisplayModeWritesModeBits :
    canonical (cmdId 0x08000000) = 0x08 ∧ canonical (cmdId 0xC80000FF) = 0x08 := by
  decide

theorem witness_GpuInfoAnswersRegisters :
    0x10 ≤ (cmdId 0x10000002).toNat % 64 ∧ (cmdId 0x10000002).toNat % 64 ≤ 0x1F ∧
      0x10 ≤ (cmdId 0xDF00000F).toNat % 64 ∧ (cmdId 0xDF00000F).toNat % 64 ≤ 0x1F := by
  decide

theorem witness_UnknownCommandsAreSilent :
    Instr.isUnknown .unknownFF = true ∧ Instr.isUnknownControl (.cUnknown3F 3 5) = true ∧ encode Config.default (.cUnknown3F 3 5) = [0xFF000005] := by
  decide

theorem witness_PlainPortsReadAndWrite :
    State.reset.rmode = .normal ∧ State.reset.busycnt = 0 := by
  exact ⟨rfl, rfl⟩

/-- The record right after power-on, the example of R308; entry 255 of the history ends at offset 1031. -/
theorem test_blob_layout :
    State.reset.blob.take 8 = [0x01, 0, 0, 0, 0x00, 0x20, 0x80, 0x14] ∧
    { State.reset with ctrlhist := State.reset.ctrlhist.set 255 0xFF123456 }.blob[1031]? = some 0xFF := by decide +kernel

theorem witness_FreezeThawRoundTrip :
    ∃ s t : State, s ≠ t ∧ s.cfg.freezeVersion = t.cfg.freezeVersion := by
  exact ⟨{ State.reset with csr := 0x5C92262A }, { State.reset with cmdbuf := [1, 2] }, by decide +kernel, rfl⟩

theorem witness_ThawRefusesForeignRecord :
    ([] : List Byte).length ≠ 1049608 ∧
      ([2, 0, 0, 0] : List Byte).getD 3 0 ++ ([2, 0, 0, 0] : List Byte).getD 2 0 ++ ([2, 0, 0, 0] : List Byte).getD 1 0 ++
        ([2, 0, 0, 0] : List Byte).getD 0 0 ≠ State.reset.cfg.freezeVersion := by
  decide

theorem witness_CommandsNeverDriveUndrivenBits :
    ∃ t : State, exec (.cDispmode 0 0xFF) State.reset = .next t ∧ ∀ m p, Instr.cDispmode 0 0xFF ≠ .cReset m p := by
  exact ⟨_, rfl, fun _ _ h => by cases h⟩

theorem witness_OnlyFillAndMoveWriteVram :
    ∃ t : State, exec (.load 0xA0 ⟨1, 2⟩ ⟨3, 4⟩) State.reset = .next t ∧ (∀ c d z, Instr.load 0xA0 ⟨1, 2⟩ ⟨3, 4⟩ ≠ .fill c d z) ∧
      ∀ m a b z, Instr.load 0xA0 ⟨1, 2⟩ ⟨3, 4⟩ ≠ .move m a b z := by
  exact ⟨_, rfl, fun _ _ _ h => (by cases h), fun _ _ _ _ h => (by cases h)⟩

theorem witness_VrdyMarksOpenReadTransfer :
    ∃ s t : State, s.cfg.resetClearsAssembler = true ∧ s.vrdyAgrees ∧ step s = .next t ∧
      (∀ v rest, s.inputs ≠ .writeStatusRaw v :: rest) ∧ ∀ blob rest, s.inputs ≠ .thaw blob :: rest := by
  obtain ⟨t, h⟩ := exists_next_of_pick (show pick (step (fed [0xC0000000, 0] 0x00010001)) State.bufcnt = some 0 by decide +kernel)
  exact ⟨_, t, rfl, by decide, h, fun _ _ h => (by simp [fed] at h), fun _ _ h => (by simp [fed] at h)⟩

theorem witness_StepKeepsConfigAndRecords :
    ∃ s t : State, step s = .next t ∧ ∀ rest, s.inputs ≠ .powerOn :: rest := by
  obtain ⟨t, h⟩ := exists_next_of_pick (show pick (step (given .readStatus)) State.bufcnt = some 0 by decide +kernel)
  exact ⟨_, t, h, fun _ h => by simp [given] at h⟩

theorem witness_DefaultTableSelectsHandlers :
    0x20 ≤ (0x20#8).toNat ∧ (0x20#8).toNat ≤ 0x23 ∧ 0x20 ≤ (0x23#8).toNat ∧ (0x23#8).toNat ≤ 0x23 ∧
      0xE6 ≤ (0xE6#8).toNat ∧ (0xE6#8).toNat ≤ 0xE6 := by
  decide

end Sys2Proof.Tests
end

/-! ## Proofs of the statements of spec/00_scope.md

The length rule, the unknown ids and the control words; then the encoder and the decoder; then steps and records. -/

namespace Sys2Proof

/-! ### Where a command ends -/

/-- Words none of which but the last completes are one command, whatever follows (R113, R244). -/
theorem frame_of_complete_last {l : LengthClass} {ws rest : List Word} {w : Word} {t : Bool}
    (hn : ∀ k (hk : k < ws.length), checkComplete l k ws[k] = none) (hl : checkComplete l ws.length w = some t) :
    frame l 0 (ws ++ [w] ++ rest) = some (ws ++ [w], t, rest) := by
  rw [List.append_assoc, frame_append (by simpa using hn), Nat.zero_add, List.singleton_append, frame_of_complete hl]
  rfl

/-- A command is cut off in the same way when nothing follows it. -/
theorem frame_self {l : LengthClass} {k : Nat} {ws rest stream : List Word} {t : Bool}
    (h : frame l k stream = some (ws, t, rest)) : frame l k ws = some (ws, t, []) := by
  induction stream generalizing k ws with
  | nil => simp [frame] at h
  | cons w stream ih =>
    rw [frame] at h
    split at h
    next t' hc =>
      simp only [Option.some.injEq, Prod.mk.injEq] at h
      obtain ⟨rfl, rfl, -⟩ := h
      exact frame_of_complete hc
    next hc =>
      split at h
      next ws' t' after hf =>
        simp only [Option.some.injEq, Prod.mk.injEq] at h
        obtain ⟨rfl, rfl, rfl⟩ := h
        rw [frame, hc, ih hf]
      next => cases h

/-- The last word of a command completes it, within the bound of its length class (R244, R254). -/
theorem checkComplete_of_frame {l : LengthClass} {stream ws rest : List Word} {t : Bool} (hl : 0 < l.max)
    (h : frame l 0 stream = some (ws, t, rest)) :
    ws.length ≤ l.max ∧ ∃ w, checkComplete l (ws.length - 1) w = some t := by
  have hne := (frame_some_append h).2
  have hlast := List.dropLast_append_getLast hne
  have hf := frame_self h
  rw [← hlast] at hf
  obtain ⟨hlt, hc⟩ := Machine.frame_last hl hf
  have hlen := List.length_pos_of_ne_nil hne
  rw [List.length_dropLast, Nat.zero_add] at hlt hc
  exact ⟨by omega, _, hc⟩

/-- A mono poly-line has its terminator at index 3 at least, and is cut at 254 words (R245, R247). -/
theorem length_of_frame_varF {stream ws rest : List Word} {t : Bool} (h : frame .varF 0 stream = some (ws, t, rest)) :
    if t then 4 ≤ ws.length ∧ ws.length ≤ 254 else ws.length = 254 := by
  obtain ⟨hle, w, hc⟩ := checkComplete_of_frame (by decide) h
  simp only [LengthClass.max] at hle
  simp only [checkComplete, termF, Bool.and_eq_true, decide_eq_true_eq] at hc
  split at hc
  · cases hc; simp only [if_true]; omega
  · split at hc
    · cases hc; simp only [Bool.false_eq_true, if_false]; omega
    · cases hc

/-- A shaded poly-line has its terminator at an even index, 4 at least, and is cut at 255 words (R246, R247). -/
theorem length_of_frame_varG {stream ws rest : List Word} {t : Bool} (h : frame .varG 0 stream = some (ws, t, rest)) :
    if t then 5 ≤ ws.length ∧ ws.length ≤ 255 ∧ ws.length % 2 = 1 else ws.length = 255 := by
  obtain ⟨hle, w, hc⟩ := checkComplete_of_frame (by decide) h
  simp only [LengthClass.max] at hle
  simp only [checkComplete, termG, Bool.and_eq_true, decide_eq_true_eq, beq_iff_eq] at hc
  split at hc
  · cases hc; simp only [if_true]; omega
  · split at hc
    · cases hc; simp only [Bool.false_eq_true, if_false]; omega
    · cases hc

/-! ### Unknown ids -/

/-- What the encoding says of the command `i` of the unknown id `id`: one word with no operand bits, that reads back (R110). -/
structure Instr.IsUnknownId (id : BitVec 8) (i : Instr) : Prop where
  encode : ∀ c : Config, Sys2Proof.encode c i = [encCW id 0]
  wellFormed : ∀ c : Config, i.wellFormed c = c.unknown id
  channel : i.channel = .gp0
  lookup : unknownInstr id = some i

/-- Every unknown rendering command is that of its own id. -/
theorem exists_isUnknownId {i : Instr} (h : i.isUnknown = true) : ∃ id, i.IsUnknownId id := by
  cases i
  all_goals first
    | exact absurd h Bool.false_ne_true
    | refine ⟨_, fun _ => rfl, fun _ => rfl, rfl, ?_⟩
  all_goals decide +kernel

/-- The command looked up under an id is that of the id. -/
theorem isUnknownId_of_unknownInstr {id : BitVec 8} {i : Instr} (h : unknownInstr id = some i) : i.IsUnknownId id := by
  obtain ⟨id', hi⟩ := exists_isUnknownId (Machine.isUnknown_of_unknownInstr h)
  have henc : ∀ id : BitVec 8, (unknownInstr id).all (fun i => encode Config.default i == [encCW id 0]) = true := by
    decide +kernel
  have hid := henc id
  rw [h, Option.all_some, hi.encode, beq_iff_eq, List.singleton_inj] at hid
  have : id' = id := by simpa using congrArg cmdId hid
  exact this ▸ hi

/-! ### Control words -/

/-- A control word is the command of the row of its canonical id, whatever its mirror bits (R111, R271). -/
theorem decodeGP1_encControl (m : BitVec 2) (c : BitVec 6) (p : BitVec 24) : decodeGP1 (encControl m c p) =
    (controlRows[(canonical (0#2 ++ c)).toNat]'(canonical_lt _)) m (c.extractLsb' 0 4) p := by
  have hk : canonical (cmdId (encControl m c p)) = canonical (0#2 ++ c) := by
    rw [cmdId_encControl, canonical_mirror, canonical_mirror]
  rw [decodeGP1_eq hk (List.getElem?_eq_getElem (canonical_lt _)), mirror_encControl, band_encControl, colour24_encControl]

/-- The sixteen ids of the GPU-info band have one row, that of their canonical id 0x10 (R271). -/
theorem controlRows_band (band : BitVec 4) :
    controlRows[(canonical (0#2 ++ (0b01#2 ++ band))).toNat]'(canonical_lt _) = Instr.cGpuinfo := by
  have hk : ∀ band : BitVec 4, canonical (0#2 ++ (0b01#2 ++ band)) = 0x10#8 := by decide
  rw [List.getElem_eq_iff, hk band]
  rfl

theorem Channel.gp0_ne_gp1 : Channel.gp0 ≠ .gp1 := by decide

/-- Every control command is one control word, which decodes to it (R111). -/
theorem decodeGP1_encode (c : Config) {i : Instr} (h : i.channel = .gp1) :
    ∃ w, encode c i = [w] ∧ decodeGP1 w = i := by
  cases i
  case cGpuinfo m band p =>
    refine ⟨_, rfl, ?_⟩
    rw [decodeGP1_encControl, controlRows_band, extractLsb'_append_low]
  all_goals first
    | exact absurd h Channel.gp0_ne_gp1
    | exact ⟨_, rfl, decodeGP1_encControl _ _ _⟩

end Sys2Proof

namespace Sys2Proof

/-! ### Operands of `TEXPAGE` and `MASKSET` (R221, R226) -/

/-- The operand of `TEXPAGE` gives its three fields back (R221). -/
theorem texpage_operand (flip : BitVec 2) (td : Bool) (mode : BitVec 11) :
    (0#10 ++ flip ++ BitVec.ofBool td ++ mode).extractLsb' 0 11 = mode ∧
      (0#10 ++ flip ++ BitVec.ofBool td ++ mode).getLsbD 11 = td ∧
      (0#10 ++ flip ++ BitVec.ofBool td ++ mode).extractLsb' 12 2 = flip := by
  refine ⟨extractLsb'_append_low _ mode, ?_, ?_⟩
  · simp only [BitVec.getLsbD_append]; cases td <;> rfl
  · exact (extractLsb'_append_shift (0#10 ++ flip ++ BitVec.ofBool td) mode 1 2).trans
      ((extractLsb'_append_shift (0#10 ++ flip) (BitVec.ofBool td) 0 2).trans (extractLsb'_append_low 0#10 flip))

/-- The operand of `MASKSET` gives its two bits back (R226). -/
theorem maskset_operand (md me : Bool) : (0#22 ++ BitVec.ofBool me ++ BitVec.ofBool md).getLsbD 0 = md ∧
    (0#22 ++ BitVec.ofBool me ++ BitVec.ofBool md).getLsbD 1 = me := by
  revert md me; decide

/-! ### Known commands -/

/-- An id that a handler reaches is one the table gives it: the id the encoder takes. -/
theorem Config.selects_idOf {c : Config} {h : Handler} (hr : c.reaches h = true) : c.selects (c.idOf h) h = true :=
  Config.selects_iff.2 (Config.entry_idOf hr)

/-- A command of a fixed length is decoded from its words, the id of the first selecting its handler (R102, R113). -/
theorem decodeGP0_of_selects {c : Config} {id : BitVec 8} {p : BitVec 24} {h : Handler} {ws rest : List Word} {i : Instr}
    (hs : c.selects id h = true) (hl : h.length = .fixed (ws.length + 1))
    (hi : assemble h false (encCW id p :: ws) = i) : decodeGP0 c (encCW id p :: ws ++ rest) = .ok (i, rest) := by
  have he : c.entry (cmdId (encCW id p)) = some ⟨.fixed (ws.length + 1), h⟩ := by
    rw [cmdId_encCW, ← hl]; exact Config.selects_iff.1 hs
  rw [decodeGP0_fixed he rfl (by rw [Handler.words, hl]), hi]

/-- A poly-line is decoded from its words, the id of the first selecting its handler, when its length class takes them all. -/
theorem decodeGP0_of_polyline {c : Config} {id : BitVec 8} {p : BitVec 24} {h : Handler} {ws rest : List Word} {t : Bool}
    {i : Instr} (hs : c.selects id h = true) (hw : h.words = 1)
    (hf : frame h.length 0 (encCW id p :: ws ++ rest) = some (encCW id p :: ws, t, rest))
    (hi : assemble h t (encCW id p :: ws) = i) : decodeGP0 c (encCW id p :: ws ++ rest) = .ok (i, rest) := by
  have he : c.entry (cmdId ((encCW id p :: ws ++ rest).headD 0)) = some ⟨h.length, h⟩ := by
    rw [List.cons_append, List.headD_cons, cmdId_encCW]; exact Config.selects_iff.1 hs
  rw [decodeGP0_of_frame he hf (by simp [hw]), hi]

/-! ### Mono poly-lines (R173) -/

/-- No word of the vertices of a mono poly-line is a terminator. -/
theorem isTerm_of_mem_encVertices {vs : List Vtx} {w : Word} (h : w ∈ encVertices vs) : isTerm w = false := by
  obtain ⟨v, -, rfl⟩ := List.mem_map.1 h
  exact isTerm_encVtx v

/-- A first word and words after it that are no terminator run on below the maximum length of a mono poly-line. -/
theorem checkComplete_varF_cons {w : Word} {ws : List Word} (hws : ∀ x ∈ ws, isTerm x = false) (hl : ws.length ≤ 252) :
    ∀ k (hk : k < (w :: ws).length), checkComplete .varF k (w :: ws)[k] = none := by
  intro k hk
  rw [List.length_cons] at hk
  refine checkComplete_varF_none ?_ (by omega)
  cases k with
  | zero => exact .inl (by decide)
  | succ k => exact .inr (hws _ (List.getElem_mem _))

/-- The length rule takes the words of a terminated mono poly-line (R245). -/
theorem frame_plineF_terminated (w : Word) {vs : List Vtx} (h2 : 2 ≤ vs.length) (h252 : vs.length ≤ 252) (rest : List Word) :
    frame .varF 0 (w :: encVertices vs ++ [termWord] ++ rest) = some (w :: encVertices vs ++ [termWord], true, rest) := by
  have hlen : (encVertices vs).length = vs.length := List.length_map ..
  refine frame_of_complete_last (checkComplete_varF_cons (fun _ => isTerm_of_mem_encVertices) (by omega)) ?_
  simp [checkComplete, termF, hlen, h2]

/-- The length rule takes the words of a cut mono poly-line, 254 of them (R247). -/
theorem frame_plineF_cut (w : Word) {vs : List Vtx} (h : vs.length = 253) (rest : List Word) :
    frame .varF 0 (w :: encVertices vs ++ rest) = some (w :: encVertices vs, false, rest) := by
  have hne : vs ≠ [] := by rintro rfl; simp at h
  have hsplit : encVertices vs = encVertices vs.dropLast ++ [encVtx (vs.getLast hne)] := by
    simp only [encVertices]
    rw [← List.map_singleton, ← List.map_append, List.dropLast_append_getLast]
  have hlen : (encVertices vs.dropLast).length = 252 := by rw [encVertices, List.length_map, List.length_dropLast, h]
  rw [hsplit, ← List.cons_append]
  refine frame_of_complete_last (checkComplete_varF_cons (fun _ => isTerm_of_mem_encVertices) (by omega)) ?_
  simp [checkComplete, termF, hlen]

/-- A mono poly-line is decoded from its words (R173). -/
theorem decodeGP0_plineF {c : Config} {high : BitVec 6} {semi b0 : Bool} {p : Colour} {vs : List Vtx} {t : Bool}
    (h : Instr.wellFormed c (.plineF high semi b0 p vs t) = true) (rest : List Word) :
    decodeGP0 c (encode c (.plineF high semi b0 p vs t) ++ rest) = .ok (.plineF high semi b0 p vs t, rest) := by
  obtain ⟨hs, hlen⟩ := Bool.and_eq_true_iff.1 h
  have hvs : (encVertices vs).map vtxOf = vs := by simp [encVertices, Function.comp_def]
  cases t with
  | true =>
    obtain ⟨h2, h252⟩ : 2 ≤ vs.length ∧ vs.length ≤ 252 := by simpa using hlen
    exact decodeGP0_of_polyline hs rfl (frame_plineF_terminated _ h2 h252 rest) (by simp [assemble, hvs])
  | false =>
    have h253 : vs.length = 253 := by simpa using hlen
    have hf := frame_plineF_cut (encCW (lineId high semi b0) p) h253 rest
    simp only [encode, Bool.false_eq_true, if_false, List.append_nil]
    exact decodeGP0_of_polyline hs rfl hf (by simp [assemble, hvs])

/-! ### Shaded poly-lines (R174) -/

/-- The pairs of whole words are those that were encoded. -/
theorem colourVertexPairs_encPairs_nil (cvs : List (Colour × Vtx)) : colourVertexPairs (encPairs cvs) = cvs := by
  induction cvs with
  | nil => rfl
  | cons p cvs ih => simp [encPairs, colourVertexPairs, ih]

/-- A first word and words after it that are no terminator run on below the maximum length of a shaded poly-line. -/
theorem checkComplete_varG_cons {w : Word} {ws : List Word} (hws : ∀ x ∈ ws, isTerm x = false) (hl : ws.length ≤ 253) :
    ∀ k (hk : k < (w :: ws).length), checkComplete .varG k (w :: ws)[k] = none := by
  intro k hk
  rw [List.length_cons] at hk
  refine checkComplete_varG_none ?_ (by omega)
  cases k with
  | zero => exact .inl (by decide)
  | succ k => exact .inr (.inr (hws _ (List.getElem_mem _)))

/-- The length rule takes the words of a shaded poly-line: the word after its last vertex ends it, as a terminator, or as word 254
(R246, R247). -/
theorem frame_plineG (w : Word) (v : Vtx) {cvs : List (Colour × Vtx)} {t : Bool}
    (hlen : if t then 1 ≤ cvs.length ∧ cvs.length ≤ 126 else cvs.length = 126) (rest : List Word) :
    frame .varG 0 (w :: encVtx v :: encPairs cvs ++ [if t then termWord else 0] ++ rest) =
      some (w :: encVtx v :: encPairs cvs ++ [if t then termWord else 0], t, rest) := by
  have hp := length_encPairs cvs
  have hn : ∀ x ∈ encVtx v :: encPairs cvs, isTerm x = false := by simpa using isTerm_of_mem_encPairs cvs
  cases t with
  | true =>
    simp only [if_true] at hlen
    refine frame_of_complete_last (checkComplete_varG_cons hn (by simp; omega)) ?_
    simp [checkComplete, termG, hp]
    omega
  | false =>
    simp only [Bool.false_eq_true, if_false] at hlen
    refine frame_of_complete_last (checkComplete_varG_cons hn (by simp; omega)) ?_
    simp [checkComplete, termG, hp, hlen]

/-- A shaded poly-line is decoded from its words (R174). -/
theorem decodeGP0_plineG {c : Config} {high : BitVec 6} {semi b0 : Bool} {cvs : List (Colour × Vtx)} {t : Bool}
    (h : Instr.wellFormed c (.plineG high semi b0 cvs t) = true) (rest : List Word) :
    decodeGP0 c (encode c (.plineG high semi b0 cvs t) ++ rest) = .ok (.plineG high semi b0 cvs t, rest) := by
  obtain ⟨hs, hlen⟩ := Bool.and_eq_true_iff.1 h
  cases cvs with
  | nil => cases t <;> simp at hlen
  | cons cv cvs =>
    obtain ⟨c0, v0⟩ := cv
    have hlen' : if t then 1 ≤ cvs.length ∧ cvs.length ≤ 126 else cvs.length = 126 := by
      cases t
      · simpa using hlen
      · simpa [Nat.lt_succ_iff] using hlen
    refine decodeGP0_of_polyline hs rfl (frame_plineG _ v0 hlen' rest) ?_
    simp [assemble, List.dropLast_cons_of_ne_nil, colourVertexPairs, colourVertexPairs_encPairs_nil]

end Sys2Proof

namespace Sys2Proof

/-! ### The decoder undoes the encoder -/

/-- A known rendering command is decoded from its words: by its fixed length, or as a poly-line (R102, R113). -/
theorem decodeGP0_encode_known {c : Config} {i : Instr} (hc : i.channel = .gp0) (hu : i.isUnknown = false)
    (h : i.wellFormed c = true) (rest : List Word) : decodeGP0 c (encode c i ++ rest) = .ok (i, rest) := by
  cases i
  case plineF => exact decodeGP0_plineF h rest
  case plineG => exact decodeGP0_plineG h rest
  case fill | irq1 => exact decodeGP0_of_selects (Config.selects_idOf h) rfl (by simp [assemble])
  case texwin | drawareaTL | drawareaBR | drawofs =>
    refine decodeGP0_of_selects (Config.selects_idOf h) rfl ?_
    simp only [assemble, List.getD_cons_zero, colour24_encCW]
    exact congrArg _ (extractLsb'_append_low _ _)
  case texpage mode td flip =>
    obtain ⟨hmode, htd, hflip⟩ := texpage_operand flip td mode
    exact decodeGP0_of_selects (Config.selects_idOf h) rfl (by simp [assemble, -BitVec.getLsbD_eq_getElem, hmode, htd, hflip])
  case maskset md me =>
    obtain ⟨hmd, hme⟩ := maskset_operand md me
    exact decodeGP0_of_selects (Config.selects_idOf h) rfl (by simp [assemble, -BitVec.getLsbD_eq_getElem, hmd, hme])
  case polyF3 | polyFT3 | polyF4 | polyFT4 | polyG3 | polyGT3 | polyG4 | polyGT4 | lineF2 | lineG2 | tile | sprt | tile1 | sprt1 |
      tile8 | sprt8 | tile16 | sprt16 | move | load | store =>
    exact decodeGP0_of_selects h rfl (by simp [assemble])
  all_goals first
    | exact absurd hu.symm Bool.false_ne_true
    | exact absurd hc.symm Channel.gp0_ne_gp1

/-- Settles O4: by the channel, and on the rendering channel by whether the command is unknown. -/
theorem decodeEncodeAgree : Obligations.DecodeEncodeAgree := by
  intro c i rest h
  cases hc : i.channel with
  | gp1 =>
    obtain ⟨w, he, hw⟩ := decodeGP1_encode c hc
    simp only [he, decode, List.singleton_append, hw]
  | gp0 =>
    show decodeGP0 c (encode c i ++ rest) = .ok (i, rest)
    cases hu : i.isUnknown with
    | false => exact decodeGP0_encode_known hc hu h rest
    | true =>
      obtain ⟨id, hi⟩ := exists_isUnknownId hu
      have hent : c.entry id = none := by simpa [hi.wellFormed, Config.unknown] using h
      rw [hi.encode]
      exact decodeGP0_unknown (by rwa [cmdId_encCW]) (by rw [cmdId_encCW]; exact hi.lookup)

end Sys2Proof

namespace Sys2Proof

/-! ### What the decoder answers (R100, R102, R113) -/

/-- A command read from words is one of the rendering channel. -/
theorem channel_assemble (h : Handler) (t : Bool) (ws : List Word) : (assemble h t ws).channel = .gp0 := by
  cases h <;> rfl

/-- A mono poly-line has as many vertices as its length class allows: its words but the first and a terminator (R173). -/
theorem vertexCount_of_frame_varF {stream ws rest : List Word} {t : Bool} {n : Nat}
    (h : frame .varF 0 stream = some (ws, t, rest)) (hn : n = if t then ws.length - 1 - 1 else ws.length - 1) :
    (if t then 2 ≤ n && n ≤ 252 else n == 253) = true := by
  have hlen := length_of_frame_varF h
  cases t with
  | true =>
    simp only [if_true] at hlen hn
    simp only [if_true, Bool.and_eq_true, decide_eq_true_eq]
    omega
  | false =>
    simp only [Bool.false_eq_true, if_false] at hlen hn
    simp [hn, hlen]

/-- A shaded poly-line has as many pairs as its length class allows: half its words but the last (R174). -/
theorem pairCount_of_frame_varG {stream ws rest : List Word} {t : Bool} {n : Nat}
    (h : frame .varG 0 stream = some (ws, t, rest)) (hn : n = (ws.length - 1) / 2) :
    (if t then 2 ≤ n && n ≤ 127 else n == 127) = true := by
  have hlen := length_of_frame_varG h
  cases t with
  | true =>
    simp only [if_true] at hlen
    simp only [if_true, Bool.and_eq_true, decide_eq_true_eq]
    omega
  | false =>
    simp only [Bool.false_eq_true, if_false] at hlen
    simp [hn, hlen]

/-- The command read from the words that the length of R102 takes is well-formed, when the table selects its handler by that length. -/
theorem wellFormed_assemble {c : Config} {h : Handler} {t : Bool} {stream ws rest : List Word}
    (hs : c.selects (cmdId (ws.getD 0 0)) h = true) (hf : frame h.length 0 stream = some (ws, t, rest)) :
    (assemble h t ws).wellFormed c = true := by
  cases h
  case fill | irq1 | texpage | texwin | drawareaTL | drawareaBR | drawofs | maskset =>
    exact Config.reaches_of_entry (Config.selects_iff.1 hs)
  case move | load | store => exact hs
  case lineF2 | lineG2 =>
    simp only [assemble, Instr.wellFormed, lineId_eq_cmdId, hs]
  case plineF =>
    simp only [assemble, Instr.wellFormed, lineId_eq_cmdId, hs, Bool.true_and]
    exact vertexCount_of_frame_varF hf (by cases t <;> simp)
  case plineG =>
    simp only [assemble, Instr.wellFormed, lineId_eq_cmdId, hs, Bool.true_and]
    exact pairCount_of_frame_varG hf (by simp [colourVertexPairs_eq])
  all_goals simp only [assemble, Instr.wellFormed, idHigh_append_idLow, hs]

/-- Every control command is well-formed (R111). -/
theorem wellFormed_of_channel_gp1 (c : Config) {i : Instr} (h : i.channel = .gp1) : i.wellFormed c = true := by
  cases i
  all_goals first
    | exact absurd h Channel.gp0_ne_gp1
    | rfl

/-- A decoded rendering command is one of its channel, cut off the stream, and well-formed under a table of lengths of R102. -/
theorem decodeGP0_sound {c : Config} {stream rest : List Word} {i : Instr} (h : decodeGP0 c stream = .ok (i, rest)) :
    i.channel = .gp0 ∧ (∃ ws, ws ≠ [] ∧ stream = ws ++ rest) ∧
      ((∀ id e, c.entry id = some e → e.length = e.handler.length) → i.wellFormed c = true) := by
  obtain ⟨w, rfl, hent, hi⟩ | ⟨e, ws, t, hent, hf, -, rfl⟩ := Machine.decodeGP0_cases h
  · have hid := isUnknownId_of_unknownInstr hi
    exact ⟨hid.channel, ⟨[w], by simp, rfl⟩, fun _ => by rw [hid.wellFormed, Config.unknown, hent]; rfl⟩
  · obtain ⟨happ, hne⟩ := frame_some_append hf
    refine ⟨channel_assemble _ _ _, ⟨ws, hne, happ⟩, fun hlen => ?_⟩
    obtain ⟨l, hd⟩ := e
    obtain rfl : l = hd.length := hlen _ _ hent
    have hhead : stream.headD 0 = ws.getD 0 0 := by
      obtain ⟨w, ws', rfl⟩ := List.exists_cons_of_ne_nil hne
      rw [happ]; rfl
    exact wellFormed_assemble (Config.selects_iff.2 (hhead ▸ hent)) hf

/-- Settles O6: the rendering channel by the two kinds of decoded command, the control channel by its one word. -/
theorem decodedCommandsWellFormed : Obligations.DecodedCommandsWellFormed := by
  intro c ch stream rest i h
  cases ch with
  | gp0 => exact decodeGP0_sound h
  | gp1 =>
    cases stream with
    | nil => cases h
    | cons w stream =>
      cases h
      have hch := Machine.channel_decodeGP1 w
      exact ⟨hch, ⟨[w], by simp, rfl⟩, fun _ => wellFormed_of_channel_gp1 c hch⟩

end Sys2Proof

namespace Sys2Proof

/-- A handler without a lasting effect is none of the eleven that have one (U16). -/
theorem Handler.lasting_eq_false_iff (h : Handler) : h.lasting = false ↔
    h ∉ [Handler.fill, .irq1, .move, .load, .store, .texpage, .texwin, .drawareaTL, .drawareaBR, .drawofs, .maskset] := by
  rw [Handler.lasting, decide_eq_false_iff_not]

end Sys2Proof

namespace Sys2Proof.Machine

/-! ### What every step keeps (R8, R93) -/

/-- `t` has the configuration of `s`, and its records after those of `s`. -/
def State.Extends (s t : State) : Prop := t.cfg = s.cfg ∧ s.out <+: t.out

theorem State.Extends.of_eq {s t : State} (hcfg : t.cfg = s.cfg) (hout : t.out = s.out) : s.Extends t :=
  ⟨hcfg, hout ▸ List.prefix_rfl⟩

theorem State.Extends.of_append {s t : State} {r : List (Record × Snapshot)} (hcfg : t.cfg = s.cfg)
    (hout : t.out = s.out ++ r) : s.Extends t :=
  ⟨hcfg, hout ▸ List.prefix_append ..⟩

/-- A command keeps the configuration and the records: it appends at most one (R13). -/
theorem Effect.extends {s t : State} (h : Effect s t) : s.Extends t := by
  cases h with
  | emit | fill | move | load | store => exact .of_append rfl rfl
  | texturedEmit => exact .of_append (by simp) (by simp; rfl)
  | silent | setFields | control | clearFifo | resetAll | resetSome => exact .of_eq rfl rfl

/-- A word on the rendering channel keeps the configuration and the records. -/
theorem writeGP0_extends {w : Word} {s t : State} (h : writeGP0 w s = .next t) : s.Extends t := by
  obtain ⟨-, rfl⟩ | ⟨-, rfl | rfl | rfl | ⟨hd, u, he, rfl⟩⟩ := writeGP0_cases h
  · rw [State.passthroughWord_eq]; exact .of_eq rfl rfl
  · exact .of_eq rfl rfl
  · exact .of_eq rfl rfl
  · exact .of_eq rfl rfl
  · obtain ⟨hcfg, hout⟩ := he.extends
    exact ⟨by simpa using hcfg, by simpa using hout⟩

theorem State.afterReadTransfer_cfg (s : State) : s.afterReadTransfer.cfg = s.cfg := by
  unfold State.afterReadTransfer; simp only; split <;> rfl

theorem State.afterReadTransfer_out (s : State) : s.afterReadTransfer.out = s.out := by
  unfold State.afterReadTransfer; simp only; split <;> rfl

theorem readData_extends {s t : State} (h : readData s = .next t) : s.Extends t := by
  unfold readData at h
  split at h <;> cases h
  · exact .of_eq (State.afterReadTransfer_cfg s) (State.afterReadTransfer_out s)
  · exact .of_eq rfl rfl

theorem thaw_extends {blob : List Byte} {s t : State} (h : thaw blob s = .next t) : s.Extends t := by
  unfold thaw at h
  split at h <;> cases h <;> exact .of_eq rfl rfl

/-- A port operation keeps the configuration, and, but for a power-on, the records. -/
theorem portStep_keeps {op : PortOp} {s t : State} (h : portStep op s = .next t) :
    t.cfg = s.cfg ∧ (op ≠ .powerOn → s.out <+: t.out) := by
  have keep (he : s.Extends t) : t.cfg = s.cfg ∧ (op ≠ .powerOn → s.out <+: t.out) := ⟨he.1, fun _ => he.2⟩
  cases op with
  | writeGP0 w => exact keep (writeGP0_extends h)
  | writeGP1 w => exact keep (effect_of_exec h).extends
  | readData => exact keep (readData_extends h)
  | thaw blob => exact keep (thaw_extends h)
  | readStatus | setFrameSkip | writeStatusRaw | freeze => cases h; exact keep (.of_eq rfl rfl)
  | powerOn => cases h; exact ⟨rfl, fun hne => absurd rfl hne⟩

/-- A step that answers a next state rests, or is the first pending port operation (R15, R332). -/
theorem step_next_cases {s t : State} (h : step s = .next t) :
    (s.inputs = [] ∧ t = s) ∨ ∃ op rest, s.inputs = op :: rest ∧ portStep op { s with inputs := rest } = .next t := by
  unfold step at h
  split at h
  · unfold nextPort at h
    split at h
    next hi => cases h; exact .inl ⟨hi, rfl⟩
    next op rest hi => exact .inr ⟨op, rest, hi, h⟩
  · cases h

/-- Settles O59: what every port operation keeps, at the step that takes it. -/
theorem stepKeepsConfigAndRecords : Obligations.StepKeepsConfigAndRecords := by
  intro s t h
  obtain ⟨-, rfl⟩ | ⟨op, rest, hi, hp⟩ := step_next_cases h
  · exact ⟨rfl, fun _ => List.prefix_rfl⟩
  · obtain ⟨hcfg, hout⟩ := portStep_keeps hp
    exact ⟨hcfg, fun hne => hout fun hop => hne rest (hop ▸ hi)⟩

/-! ### Memory and records -/

/-- Settles O31, by what reading after a store and after a masked store gives. -/
theorem texelStoresFollowPolicy : Obligations.TexelStoresFollowPolicy := fun csr _ x y x' y' v h =>
  ⟨Vram.read_write h x y x' y' v, Vram.read_writeMasked csr h x y x' y' v⟩

/-- Settles O54: the snapshot of the state emitted from is its fields. -/
theorem snapshotReadsContext : Obligations.SnapshotReadsContext := fun s r => State.emit_out s r

/-! ### What a step runs (R241 to R249) -/

/-- A word that completes a command in framing mode dispatches the buffer (R242 to R244). -/
theorem writeGP0_of_frame {s : State} {w : Word} {e : DispatchEntry} {ws : List Word} {t : Bool} (hm : s.wmode = .framing)
    (hmax : 0 < e.length.max) (he : s.cfg.entry (cmdId ((s.cmdbuf ++ [w]).headD 0)) = some e)
    (hf : frame e.length 0 (s.cmdbuf ++ [w]) = some (ws, t, [])) :
    ws = s.cmdbuf ++ [w] ∧ writeGP0 w s = dispatchBuffer e.handler t { s with cmdbuf := s.cmdbuf ++ [w] } := by
  obtain rfl : s.cmdbuf ++ [w] = ws := by simpa using (frame_some_append hf).1
  obtain ⟨hroom, hc⟩ := frame_last hmax hf
  rw [Nat.zero_add] at hroom hc
  refine ⟨rfl, ?_⟩
  rw [writeGP0_eq_bufferWord hm he hroom, bufferWord]
  simp only [State.bufcnt, hc]

/-- A command decoded from the buffer and the next word is run and ended, when it is not skipped (R248, R249). -/
theorem writeGP0_of_decoded {s : State} {w : Word} {i : Instr} (hwf : s.cfg.wf = true) (hm : s.wmode = .framing)
    (hi : decodeGP0 s.cfg (s.cmdbuf ++ [w]) = .ok (i, [])) (hu : i.isUnknown = false)
    (hskip : (s.frameskip && s.cfg.skippable (cmdId ((s.cmdbuf ++ [w]).headD 0))) = false) :
    writeGP0 w s = endDispatch (exec i { s with cmdbuf := s.cmdbuf ++ [w] }) := by
  obtain ⟨w', -, -, hi'⟩ | ⟨e, ws, t, he, hf, hw, rfl⟩ := decodeGP0_cases hi
  · rw [isUnknown_of_unknownInstr hi'] at hu; cases hu
  · obtain ⟨rfl, hd⟩ := writeGP0_of_frame hm (Config.max_pos hwf he) he hf
    rw [hd, dispatchBuffer_of_le hskip hw]

/-- The discarded word of an unknown id is its command, from Idle (R110, R242). -/
theorem writeGP0_of_decoded_unknown {s : State} {w : Word} {i : Instr} (hm : s.wmode = .framing)
    (hi : decodeGP0 s.cfg (s.cmdbuf ++ [w]) = .ok (i, [])) (hu : i.isUnknown = true) : writeGP0 w s = exec i s := by
  obtain ⟨w', hbuf, he, hi'⟩ | ⟨e, ws, t, -, -, -, rfl⟩ := decodeGP0_cases hi
  · obtain ⟨hc, rfl⟩ : s.cmdbuf = [] ∧ w = w' := by simpa using List.append_eq_singleton_iff.1 hbuf
    rw [writeGP0_of_unknown hm hc he, exec_of_unknownInstr hi' s]
  · rw [isUnknown_assemble] at hu; cases hu

/-- A command of an entry shorter than its handler reads free values for the words that are not there (log 26). -/
theorem writeGP0_of_short {s : State} {w : Word} {e : DispatchEntry} {ws : List Word} {t : Bool} (hwf : s.cfg.wf = true)
    (hm : s.wmode = .framing) (he : s.cfg.entry (cmdId ((s.cmdbuf ++ [w]).headD 0)) = some e)
    (hf : frame e.length 0 (s.cmdbuf ++ [w]) = some (ws, t, [])) (hw : ws.length < e.handler.words)
    (hskip : (s.frameskip && s.cfg.skippable (cmdId ((s.cmdbuf ++ [w]).headD 0))) = false) :
    writeGP0 w s = endDispatch (exec
      (assemble e.handler t
        (ws ++ (List.range (e.handler.words - ws.length)).map fun k => Config.deadWord s.freeCount (ws.length + k)))
      { s with cmdbuf := s.cmdbuf ++ [w], freeCount := s.freeCount + 1 }) := by
  obtain ⟨rfl, hd⟩ := writeGP0_of_frame hm (Config.max_pos hwf he) he hf
  have hdraw : State.drawDeadWords { s with cmdbuf := s.cmdbuf ++ [w] } e.handler =
      { s with cmdbuf := s.cmdbuf ++ [w], freeCount := s.freeCount + 1 } := if_pos hw
  rw [hd, dispatchBuffer_of_not_skipped hskip, hdraw]
  rfl

/-- Settles O1, from what the word does to the state without its pending operation. -/
theorem stepRunsDecodedCommand : Obligations.StepRunsDecodedCommand := by
  intro s w rest hwf
  refine ⟨fun hm hin => ?_, fun hin => step_of_inputs hwf hin⟩
  rw [step_of_inputs hwf hin]
  refine ⟨fun i hi => ⟨fun hu hskip => ?_, fun hu => ?_⟩, fun e ws t he hf hw hskip => ?_⟩
  · exact writeGP0_of_decoded (s := { s with inputs := rest }) hwf hm hi hu hskip
  · exact writeGP0_of_decoded_unknown (s := { s with inputs := rest }) hm hi hu
  · exact writeGP0_of_short (s := { s with inputs := rest }) hwf hm he hf hw hskip

/-! ### When a step is refused (R8, U16) -/

/-- A step is refused for its configuration exactly when the configuration is not accepted (R8; log 8). -/
theorem step_illFormedConfig_iff (s : State) : step s = .refused .illFormedConfig ↔ s.cfg.wf = false := by
  cases hwf : s.cfg.wf with
  | false => simp [step, hwf]
  | true =>
    simp only [Bool.true_eq_false, iff_false]
    intro h
    cases hin : s.inputs with
    | nil => rw [step_of_wf hwf, nextPort, hin] at h; cases h
    | cons op rest =>
      rw [step_of_inputs hwf hin] at h
      cases portStep_refused h

/-- Settles O3: the two tests of a configuration spelt out, and the first pending operation. -/
theorem stepTakesOnePortOperation : Obligations.StepTakesOnePortOperation := by
  intro s
  refine ⟨?_, fun hwf => ⟨fun hin => ?_, fun op rest hin => step_of_inputs hwf hin, fun w rest hin hm => ?_⟩⟩
  · rw [step_illFormedConfig_iff, ← Bool.not_eq_true, Config.wf, Bool.and_eq_true, Config.tableWf_iff, Config.skipWf_iff]
    simp only [Handler.lasting_eq_false_iff]
  · rw [step_of_wf hwf, nextPort, hin]
  · rw [step_of_inputs hwf hin]
    show writeGP0 w { s with inputs := rest } = _
    rw [writeGP0]
    simp only [hm]

/-! ### The default table (R108) -/

/-- The rows of R108 do not overlap, so an id of a row has the entry of that row. -/
theorem default_entry_of_row {lo hi : Nat} {e : Option DispatchEntry} (hr : ⟨lo, hi, e⟩ ∈ dispatchRows) (id : BitVec 8)
    (hlo : lo ≤ id.toNat) (hhi : id.toNat ≤ hi) : Config.default.entry id = e := by
  have hrow : ∀ r ∈ dispatchRows, ∀ id : BitVec 8, r.lo ≤ id.toNat → id.toNat ≤ r.hi →
      Config.default.entry id = r.entry := by
    decide +kernel
  exact hrow _ hr id hlo hhi

/-- With the mirrors an id has the entry that the first id of its mirror range has without them (R108). -/
theorem entry_mirrors (c : Config) (id : BitVec 8) : { c with transferMirrors := true }.entry id =
    { c with transferMirrors := false }.entry
      (if 0x81 ≤ id.toNat ∧ id.toNat ≤ 0x9F then 0x80 else if 0xA1 ≤ id.toNat ∧ id.toNat ≤ 0xBF then 0xA0
       else if 0xC1 ≤ id.toNat ∧ id.toNat ≤ 0xDF then 0xC0 else id) := by
  rw [Config.entry_eq, Config.entry_of_not_mirrors rfl]
  simp only [true_and]
  split_ifs <;> rfl

/-- Settles O60, row by row of R108. -/
theorem defaultTableSelectsHandlers : Obligations.DefaultTableSelectsHandlers := by
  refine ⟨?_, Config.default_wf, entry_mirrors⟩
  repeat' apply And.intro
  all_goals exact default_entry_of_row (by decide)

end Sys2Proof.Machine

/-! ## Proofs of the statements of spec/10_state.md

What a transfer, a command and a port operation do to the invariant; then the status register; then reset and the derived values. -/

namespace Sys2Proof.Machine

/-! ### The cursor after a half-word (R205, R207) -/

/-- The cursor after one half-word of a transfer: it advances while the rectangle has texels left. -/
def Cursor.next (c : Cursor) : Cursor := if c.row < c.hgt then c.advance else c

@[simp] theorem Cursor.next_wid (c : Cursor) : c.next.wid = c.wid := by
  unfold Cursor.next; split
  · exact c.advance_wid
  · rfl

@[simp] theorem Cursor.next_hgt (c : Cursor) : c.next.hgt = c.hgt := by
  unfold Cursor.next; split
  · exact c.advance_hgt
  · rfl

@[simp] theorem Cursor.next_rem (c : Cursor) : c.next.rem = c.rem := by
  unfold Cursor.next; split
  · exact c.advance_rem
  · rfl

theorem Cursor.next_col_lt {c : Cursor} (h : c.col < c.wid) : c.next.col < c.next.wid := by
  rw [Cursor.next_wid, Cursor.next]; split
  · exact Cursor.advance_col_lt h
  · exact h

/-- A half-word moves to the next texel in raster order while texels are left. -/
theorem Cursor.next_pos {c : Cursor} (hcol : c.col < c.wid) (hpos : c.pos < c.wid * c.hgt) : c.next.pos = c.pos + 1 := by
  rw [Cursor.next, if_pos ((Cursor.row_lt_iff hcol).2 hpos), Cursor.advance_pos]

/-- The cursor of a load after a half-word (R205). -/
theorem State.storeHalf_wcur_next (s : State) (half : BitVec 16) : (s.storeHalf half).wcur = s.wcur.next :=
  s.storeHalf_wcur half

/-- The cursor of a store after a half-word (R207). -/
theorem readHalf_cursor (m : Vram) (c : Cursor) : (readHalf m c).2 = c.next := by
  unfold readHalf Cursor.next; split <;> rfl

/-- A transfer word that is not the last leaves a live cursor live (R41, R42, R87). -/
theorem Cursor.live_next_next {c : Cursor} (hc : c.live) (hrem : c.rem - 1 ≠ 0) :
    Cursor.live { c.next.next with rem := c.rem - 1 } := by
  have ⟨_, _, _, _, hcol, _, _⟩ := hc
  have hcol' := Cursor.next_col_lt hcol
  refine Cursor.live_of_two hc (by simp) (by simp) (Cursor.next_col_lt hcol') (fun hpos => ?_) rfl hrem
  have h1 : c.next.pos = c.pos + 1 := Cursor.next_pos hcol (by omega)
  have h2 : c.next.next.pos = c.next.pos + 1 := Cursor.next_pos hcol' (by rw [Cursor.next_wid, Cursor.next_hgt]; omega)
  show c.next.next.pos = c.pos + 2
  omega

/-! ### Transfer words (R205, R207) -/

/-- The cursor after a payload word. -/
theorem State.passthroughWord_wcur (s : State) (w : Word) :
    (s.passthroughWord w).wcur = { s.wcur.next.next with rem := s.wcur.rem - 1 } := by
  simp only [State.passthroughWord, State.storeHalf_wcur_next, Cursor.next_rem]

/-- The last payload word ends pass-through; every other keeps the mode. -/
theorem State.passthroughWord_wmode (s : State) (w : Word) :
    (s.passthroughWord w).wmode = if s.wcur.rem - 1 = 0 then .framing else s.wmode := by
  simp only [State.passthroughWord, State.storeHalf_wcur_next, Cursor.next_rem]
  rw [State.storeHalf_eq (s.storeHalf _), State.storeHalf_eq s]

/-- The read transfer before its last word: the cursor moves on and nothing else changes. -/
theorem State.afterReadTransfer_of_ne {s : State} (h : s.rcur.rem - 1 ≠ 0) :
    s.afterReadTransfer = { s with rcur := { s.rcur.next.next with rem := s.rcur.rem - 1 } } := by
  simp only [State.afterReadTransfer, readHalf_cursor, Cursor.next_rem, if_neg h]

/-- The last word of the read transfer closes it and clears `VRDY`. -/
theorem State.afterReadTransfer_of_eq {s : State} (h : s.rcur.rem - 1 = 0) : s.afterReadTransfer =
    { s with
      rcur := { s.rcur.next.next with rem := s.rcur.rem - 1 }, rmode := .normal, csr := csrVrdy s.csr false } := by
  simp only [State.afterReadTransfer, readHalf_cursor, Cursor.next_rem, if_pos h]

/-! ### The two halves of the invariant -/

/-- The invariant but for what it says of the command buffer: it holds in the middle of a dispatch too, where the buffer is full. -/
structure State.Sound (s : State) : Prop where
  cfg : s.cfg.wf = true
  vram : s.vram.wf
  wcur : s.wmode = .passthrough → s.wcur.live
  rcur : s.rmode = .vramRead → s.rcur.live
  busy : s.busycnt ≤ s.cfg.fakeBusyReads

/-- What the invariant says of the command buffer (R240, R254). -/
structure State.BufferInv (s : State) : Prop where
  bound : s.bufferOk
  empty : s.wmode = .passthrough → s.cmdbuf = []

theorem State.inv_iff (s : State) : s.Inv ↔ s.Sound ∧ s.BufferInv := by
  constructor
  · rintro ⟨hcfg, hvram, hbuf, hpass, hread, hbusy⟩
    exact ⟨⟨hcfg, hvram, fun h => (hpass h).2, hread, hbusy⟩, ⟨hbuf, fun h => (hpass h).1⟩⟩
  · rintro ⟨hs, hb⟩
    exact ⟨hs.cfg, hs.vram, hb.bound, fun h => ⟨hb.empty h, hs.wcur h⟩, hs.rcur, hs.busy⟩

/-- An empty buffer meets its half in either mode. -/
theorem State.BufferInv.of_nil {s : State} (h : s.cmdbuf = []) : s.BufferInv := ⟨.inl h, fun _ => h⟩

/-- In framing mode the bound is all there is to show. -/
theorem State.BufferInv.of_framing {s : State} (hm : s.wmode = .framing) (hb : s.bufferOk) : s.BufferInv :=
  ⟨hb, fun h => by rw [hm] at h; cases h⟩

/-- The half about the buffer depends on the table, the mode and the buffer only. -/
theorem State.BufferInv.of_eq {s t : State} (h : s.BufferInv) (hcfg : t.cfg = s.cfg) (hm : t.wmode = s.wmode)
    (hc : t.cmdbuf = s.cmdbuf) : t.BufferInv := by
  refine ⟨?_, fun hp => hc.trans (h.empty (hm ▸ hp))⟩
  rw [State.bufferOk, State.bufcnt, hcfg, hc]
  exact h.bound

/-! ### What keeps the first half -/

/-- Every command keeps it: a rectangle operation keeps VRAM canonical, a new transfer starts live (R204, R206). -/
theorem Effect.sound {s t : State} (h : Effect s t) (hs : s.Sound) : t.Sound := by
  obtain ⟨hcfg, hvram, hw, hr, hbusy⟩ := hs
  cases h with
  | silent | emit | setFields | control => exact ⟨hcfg, hvram, hw, hr, hbusy⟩
  | texturedEmit p r => exact ⟨by simpa, by simpa, by simpa, by simpa, by simpa⟩
  | fill dst size c r => exact ⟨hcfg, Vram.wf_fillRectangle hvram _ _ _ _, hw, hr, hbusy⟩
  | move src dst size r => exact ⟨hcfg, Vram.wf_copyRectangle _ hvram _ _ _, hw, hr, hbusy⟩
  | load dst size r => exact ⟨hcfg, hvram, fun _ => Cursor.live_start dst size, hr, hbusy⟩
  | store src size r => exact ⟨hcfg, hvram, hw, fun _ => Cursor.live_start src size, hbusy⟩
  | clearFifo | resetAll => exact ⟨hcfg, hvram, nofun, nofun, hbusy⟩
  | resetSome => exact ⟨hcfg, hvram, hw, hr, hbusy⟩

/-- Storing a word keeps it. -/
theorem State.Sound.withCmdbuf {s : State} (hs : s.Sound) (buf : List Word) : State.Sound { s with cmdbuf := buf } :=
  ⟨hs.cfg, hs.vram, hs.wcur, hs.rcur, hs.busy⟩

theorem State.Sound.drawDeadWords {s : State} (hs : s.Sound) (h : Handler) : (s.drawDeadWords h).Sound := by
  unfold State.drawDeadWords; split
  · exact ⟨hs.cfg, hs.vram, hs.wcur, hs.rcur, hs.busy⟩
  · exact hs

/-- The busy arming sets the counter to its bound (R252). -/
theorem State.Sound.endDispatch {s : State} (hs : s.Sound) : s.endDispatch.Sound := by
  refine ⟨hs.cfg, hs.vram, hs.wcur, hs.rcur, ?_⟩
  rw [State.endDispatch_busycnt]
  split
  · exact le_rfl
  · exact hs.busy

/-- A payload word keeps it: the cursor stays live until the last word ends the mode. -/
theorem State.Sound.passthroughWord {s : State} (hs : s.Sound) (w : Word) : (s.passthroughWord w).Sound := by
  have hrest := s.passthroughWord_eq w
  refine ⟨?_, State.wf_passthroughWord hs.vram w, fun hm => ?_, ?_, ?_⟩
  · rw [hrest]; exact hs.cfg
  · rw [State.passthroughWord_wmode] at hm
    split at hm
    next => cases hm
    next hrem => rw [State.passthroughWord_wcur]; exact Cursor.live_next_next (hs.wcur hm) hrem
  · rw [hrest]; exact hs.rcur
  · rw [hrest]; exact hs.busy

/-- A word on the rendering channel keeps it. -/
theorem writeGP0_sound {w : Word} {s t : State} (h : writeGP0 w s = .next t) (hs : s.Sound) : t.Sound := by
  have hbuf := hs.withCmdbuf (s.cmdbuf ++ [w])
  obtain ⟨-, rfl⟩ | ⟨-, rfl | rfl | rfl | ⟨hd, u, he, rfl⟩⟩ := writeGP0_cases h
  · exact hs.passthroughWord w
  · exact hs
  · exact hbuf
  · exact hbuf.endDispatch
  · exact (he.sound (hbuf.drawDeadWords hd)).endDispatch

/-- A read transfer word keeps it: the cursor stays live until the last word closes the transfer. -/
theorem State.Sound.afterReadTransfer {s : State} (hs : s.Sound) (hm : s.rmode = .vramRead) : s.afterReadTransfer.Sound := by
  rcases eq_or_ne (s.rcur.rem - 1) 0 with h | h
  · rw [State.afterReadTransfer_of_eq h]
    exact ⟨hs.cfg, hs.vram, hs.wcur, nofun, hs.busy⟩
  · rw [State.afterReadTransfer_of_ne h]
    exact ⟨hs.cfg, hs.vram, hs.wcur, fun _ => Cursor.live_next_next (hs.rcur hm) h, hs.busy⟩

theorem readData_sound {s t : State} (h : readData s = .next t) (hs : s.Sound) : t.Sound := by
  unfold readData at h
  split at h
  next hm =>
    cases h
    obtain ⟨hcfg, hvram, hw, hr, hbusy⟩ := hs.afterReadTransfer hm
    exact ⟨hcfg, hvram, hw, hr, hbusy⟩
  next => cases h; exact ⟨hs.cfg, hs.vram, hs.wcur, hs.rcur, hs.busy⟩

/-- An accepted record has the bytes of one VRAM image after its registers (R308). -/
theorem length_image_of_accepts {s : State} {blob : List Byte} (h : s.accepts blob = true) :
    (blob.drop 1032).length ≤ vramBytes := by
  obtain ⟨hlen, -⟩ := Bool.and_eq_true_iff.1 h
  simp [eq_of_beq hlen, blobBytes, vramBytes]

theorem thaw_sound {blob : List Byte} {s t : State} (h : thaw blob s = .next t) (hs : s.Sound) : t.Sound := by
  unfold thaw at h
  split at h
  next ha => cases h; exact ⟨hs.cfg, Vram.wf_ofImage _ (length_image_of_accepts ha), nofun, nofun, Nat.zero_le _⟩
  next => cases h; exact ⟨hs.cfg, hs.vram, hs.wcur, hs.rcur, hs.busy⟩

theorem portStep_sound {op : PortOp} {s t : State} (h : portStep op s = .next t) (hs : s.Sound) : t.Sound := by
  cases op with
  | writeGP0 w => exact writeGP0_sound h hs
  | writeGP1 w => exact (effect_of_exec h).sound hs
  | readStatus => cases h; exact ⟨hs.cfg, hs.vram, hs.wcur, hs.rcur, (Nat.sub_le _ _).trans hs.busy⟩
  | readData => exact readData_sound h hs
  | setFrameSkip | writeStatusRaw | freeze => cases h; exact ⟨hs.cfg, hs.vram, hs.wcur, hs.rcur, hs.busy⟩
  | thaw blob => exact thaw_sound h hs
  | powerOn => cases h; exact ⟨hs.cfg, Vram.wf_nil _, nofun, nofun, Nat.zero_le _⟩

/-! ### What keeps the second half (R240, R254) -/

/-- The end of `Dispatch` empties the buffer (R249). -/
theorem dispatchBuffer_cmdbuf {h : Handler} {terminated : Bool} {s t : State} (hd : dispatchBuffer h terminated s = .next t) :
    t.cmdbuf = [] := by
  cases hs : s.frameskip && s.cfg.skippable (cmdId (s.cmdbuf.headD 0)) with
  | true => rw [dispatchBuffer_of_skipped hs] at hd; cases hd; rfl
  | false =>
    obtain ⟨u, -, -, hu⟩ := endDispatch_exec (assemble h terminated (s.handlerWords h)) (s.drawDeadWords h)
    rw [dispatchBuffer_of_not_skipped hs, hu] at hd
    cases hd; rfl

/-- A stored word leaves an empty buffer or room for the next word of its command (R243, R244, R254). -/
theorem bufferWord_bufferOk {e : DispatchEntry} {w : Word} {s t : State} (h : bufferWord e w s = .next t)
    (he : s.cfg.entry (cmdId ((s.cmdbuf ++ [w]).headD 0)) = some e) (hroom : s.bufcnt < e.length.max) : t.bufferOk := by
  unfold bufferWord at h
  split at h
  next => exact .inl (dispatchBuffer_cmdbuf h)
  next hc =>
    cases h
    right
    rw [Config.maxLen_eq he, State.bufcnt, List.length_append, List.length_singleton]
    exact lt_max_of_checkComplete_none hroom hc

/-- A word in framing mode keeps the bound of the buffer (R254). -/
theorem writeGP0_bufferOk {w : Word} {s t : State} (h : writeGP0 w s = .next t) (hm : s.wmode = .framing)
    (hcfg : s.cfg.wf = true) : t.bufferOk := by
  cases hc : s.cmdbuf with
  | nil =>
    cases he : s.cfg.entry (cmdId w) with
    | none => rw [writeGP0_of_unknown hm hc he] at h; cases h; exact .inl hc
    | some e =>
      have he' : s.cfg.entry (cmdId ((s.cmdbuf ++ [w]).headD 0)) = some e := by rw [hc]; exact he
      have hroom : s.bufcnt < e.length.max := by rw [State.bufcnt, hc]; exact Config.max_pos hcfg he
      rw [writeGP0_eq_bufferWord hm he' hroom] at h
      exact bufferWord_bufferOk h he' hroom
  | cons w0 ws =>
    rw [writeGP0, hm, hc] at h
    simp only [nextWord] at h
    split at h
    next e he =>
      split at h
      next hroom => exact bufferWord_bufferOk h (by rw [hc]; exact he) hroom
      next => cases h
    next => cases h

/-- Pass-through begins only at the end of a dispatch, which empties the buffer, and no payload word is stored (R240). -/
theorem writeGP0_bufferInv {w : Word} {s t : State} (h : writeGP0 w s = .next t) (hcfg : s.cfg.wf = true)
    (hb : s.BufferInv) : t.BufferInv := by
  cases hm : s.wmode with
  | passthrough =>
    obtain ⟨-, rfl⟩ | ⟨hm', -⟩ := writeGP0_cases h
    · refine .of_nil ?_
      rw [State.passthroughWord_eq]
      exact hb.empty hm
    · rw [hm] at hm'; cases hm'
  | framing =>
    have hok := writeGP0_bufferOk h hm hcfg
    obtain ⟨hm', -⟩ | ⟨-, rfl | rfl | rfl | ⟨hd, u, he, rfl⟩⟩ := writeGP0_cases h
    · rw [hm] at hm'; cases hm'
    · exact hb
    · exact .of_framing hm hok
    · exact .of_nil rfl
    · exact .of_nil rfl

theorem writeGP1_bufferInv {w : Word} {s t : State} (h : writeGP1 w s = .next t) (hb : s.BufferInv) : t.BufferInv := by
  obtain ⟨hm, hc⟩ | ⟨-, hc⟩ := exec_control_framing (channel_decodeGP1 w) h
  · exact hb.of_eq (effect_of_exec h).extends.1 hm hc
  · exact .of_nil hc

theorem State.afterReadTransfer_framing (s : State) :
    s.afterReadTransfer.wmode = s.wmode ∧ s.afterReadTransfer.cmdbuf = s.cmdbuf := by
  rcases eq_or_ne (s.rcur.rem - 1) 0 with h | h
  · rw [State.afterReadTransfer_of_eq h]; exact ⟨rfl, rfl⟩
  · rw [State.afterReadTransfer_of_ne h]; exact ⟨rfl, rfl⟩

theorem readData_bufferInv {s t : State} (h : readData s = .next t) (hb : s.BufferInv) : t.BufferInv := by
  unfold readData at h
  split at h <;> cases h
  · obtain ⟨hm, hc⟩ := s.afterReadTransfer_framing
    exact hb.of_eq s.afterReadTransfer_cfg hm hc
  · exact hb.of_eq rfl rfl rfl

theorem thaw_bufferInv {blob : List Byte} {s t : State} (h : thaw blob s = .next t) (hb : s.BufferInv) : t.BufferInv := by
  unfold thaw at h
  split at h <;> cases h
  · exact .of_nil rfl
  · exact hb.of_eq rfl rfl rfl

theorem portStep_bufferInv {op : PortOp} {s t : State} (h : portStep op s = .next t) (hcfg : s.cfg.wf = true)
    (hb : s.BufferInv) : t.BufferInv := by
  cases op with
  | writeGP0 w => exact writeGP0_bufferInv h hcfg hb
  | writeGP1 w => exact writeGP1_bufferInv h hb
  | readData => exact readData_bufferInv h hb
  | readStatus | setFrameSkip | writeStatusRaw | freeze => cases h; exact hb.of_eq rfl rfl rfl
  | thaw blob => exact thaw_bufferInv h hb
  | powerOn => cases h; exact .of_nil rfl

/-! ### The invariant -/

theorem portStep_inv {op : PortOp} {s t : State} (h : portStep op s = .next t) (hs : s.Inv) : t.Inv := by
  obtain ⟨hsound, hbuf⟩ := s.inv_iff.1 hs
  exact t.inv_iff.2 ⟨portStep_sound h hsound, portStep_bufferInv h hsound.cfg hbuf⟩

/-- The pending operations are no part of the invariant. -/
theorem State.Inv.withInputs {s : State} (hs : s.Inv) (ops : List PortOp) : State.Inv { s with inputs := ops } := hs

/-- Settles O18: a step rests or is one port operation, and each keeps both halves of the invariant. -/
theorem stepKeepsInvariant : Obligations.StepKeepsInvariant := by
  intro s t hs h
  obtain ⟨-, rfl⟩ | ⟨op, rest, -, hp⟩ := step_next_cases h
  · exact hs
  · exact portStep_inv hp (State.Inv.withInputs hs rest)

/-- Settles O17: nothing is buffered and both transfers are closed. -/
theorem resetSatisfiesInvariant : Obligations.ResetSatisfiesInvariant :=
  ⟨Config.default_wf, Vram.wf_nil 0, .inl rfl, nofun, nofun, Nat.zero_le _⟩

/-! ### The bits nothing drives (R29) -/

/-- A field write clear of the undriven bits keeps them. -/
theorem sameUndrivenBits_setBits (v : Word) (lo : Nat) {n : Nat} (f : BitVec n)
    (h : ∀ b ∈ [13, 25, 26, 28, 31], ¬(lo ≤ b ∧ b < lo + n)) : sameUndrivenBits (setBits v lo f) v := by
  intro b hb
  have h32 : b < 32 := by revert b; decide
  rw [getLsbD_setBits v lo f h32, if_neg (h b hb)]

/-- The write-back of a textured polygon keeps the undriven bits (R159). -/
theorem sameUndrivenBits_texpageWriteback (s : State) (p : BitVec 16) :
    sameUndrivenBits (s.texpageWriteback p).csr s.csr := by
  rw [State.texpageWriteback_csr]
  split
  · exact sameUndrivenBits_csrPolyTexpage _ _ _
  · exact sameUndrivenBits_refl _

/-- What each command but `C_RESET` writes of the status register is clear of the undriven bits. -/
theorem exec_sameUndrivenBits {i : Instr} {s t : State} (h : exec i s = .next t) (hi : ∀ m p, i ≠ .cReset m p) :
    sameUndrivenBits t.csr s.csr := by
  cases i
  case cReset m p => exact absurd rfl (hi m p)
  case polyFT3 | polyFT4 | polyGT3 | polyGT4 => cases h; exact sameUndrivenBits_texpageWriteback s _
  case texpage => cases h; exact sameUndrivenBits_csrTexpage _ _ _
  case maskset => cases h; exact sameUndrivenBits_csrMask _ _ _
  case cDispmode => cases h; exact sameUndrivenBits_csrDisplayMode _ _
  case cDmadir => cases h; exact sameUndrivenBits_setBits _ _ _ (by decide)
  case irq1 | store | cAckirq | cDispen | cClearfifo => cases h; exact sameUndrivenBits_setBit _ _ (by decide)
  all_goals cases h; exact sameUndrivenBits_refl _

/-- Settles O56, command by command. -/
theorem commandsNeverDriveUndrivenBits : Obligations.CommandsNeverDriveUndrivenBits :=
  fun _ _ _ h hi => exec_sameUndrivenBits h hi

/-! ### `VRDY` and the read transfer (R28, R42) -/

@[simp] theorem vrdy_csrVrdy (v : Word) (x : Bool) : Csr.vrdy (csrVrdy v x) = x :=
  getLsbD_csrVrdy v x (by decide)

theorem vrdy_csrReset : Csr.vrdy csrReset = false := by decide

/-- Whether `VRDY` agrees depends on the status bit and the read mode only. -/
theorem State.vrdyAgrees.of_eq {s t : State} (h : s.vrdyAgrees) (hcsr : Csr.vrdy t.csr = Csr.vrdy s.csr)
    (hm : t.rmode = s.rmode) : t.vrdyAgrees := by
  rw [State.vrdyAgrees, hcsr, hm]; exact h

/-- With the transfer closed, `VRDY` agrees when it is 0. -/
theorem State.vrdyAgrees.of_normal {s : State} (hcsr : Csr.vrdy s.csr = false) (hm : s.rmode = .normal) : s.vrdyAgrees := by
  rw [State.vrdyAgrees, hcsr, hm]; rfl

theorem vrdy_texpageWriteback (s : State) (p : BitVec 16) : Csr.vrdy (s.texpageWriteback p).csr = Csr.vrdy s.csr := by
  rw [State.texpageWriteback_csr]
  split
  · exact vrdy_csrPolyTexpage _ _ _
  · rfl

/-- Every command keeps the agreement: `STORE` opens and sets, the two clearing commands close and clear, no other touches either
(R206, R272, R273). The control reset needs its parameter, or it would clear `VRDY` under an open transfer. -/
theorem Effect.vrdyAgrees {s t : State} (h : Effect s t) (hcfg : s.cfg.resetClearsAssembler = true) (hs : s.vrdyAgrees) :
    t.vrdyAgrees := by
  cases h with
  | silent | emit | fill | move | load => exact hs.of_eq rfl rfl
  | texturedEmit p r => exact hs.of_eq (vrdy_texpageWriteback s p) (by simp)
  | store => exact vrdy_csrVrdy _ _
  | setFields v _ _ _ _ _ _ hvrdy => exact hs.of_eq hvrdy rfl
  | control _ _ _ v _ _ _ _ _ _ hvrdy => exact hs.of_eq hvrdy rfl
  | clearFifo | resetAll => exact .of_normal (vrdy_csrVrdy _ _) rfl
  | resetSome _ _ _ hoff => rw [hcfg] at hoff; cases hoff

theorem writeGP0_vrdyAgrees {w : Word} {s t : State} (h : writeGP0 w s = .next t)
    (hcfg : s.cfg.resetClearsAssembler = true) (hs : s.vrdyAgrees) : t.vrdyAgrees := by
  obtain ⟨-, rfl⟩ | ⟨-, rfl | rfl | rfl | ⟨hd, u, he, rfl⟩⟩ := writeGP0_cases h
  · rw [State.passthroughWord_eq]; exact hs
  · exact hs
  · exact hs
  · exact hs
  · have hu : u.vrdyAgrees := he.vrdyAgrees (by simpa using hcfg) (hs.of_eq (by simp) (by simp))
    exact hu.of_eq rfl rfl

theorem readData_vrdyAgrees {s t : State} (h : readData s = .next t) (hs : s.vrdyAgrees) : t.vrdyAgrees := by
  unfold readData at h
  split at h <;> cases h
  · rcases eq_or_ne (s.rcur.rem - 1) 0 with hrem | hrem
    · rw [State.afterReadTransfer_of_eq hrem]; exact .of_normal (vrdy_csrVrdy _ _) rfl
    · rw [State.afterReadTransfer_of_ne hrem]; exact hs.of_eq rfl rfl
  · exact hs.of_eq rfl rfl

/-- Every port operation but a raw status write and a thaw keeps the agreement. -/
theorem portStep_vrdyAgrees {op : PortOp} {s t : State} (h : portStep op s = .next t)
    (hcfg : s.cfg.resetClearsAssembler = true) (hs : s.vrdyAgrees) (hraw : ∀ v, op ≠ .writeStatusRaw v)
    (hthaw : ∀ blob, op ≠ .thaw blob) : t.vrdyAgrees := by
  cases op with
  | writeGP0 w => exact writeGP0_vrdyAgrees h hcfg hs
  | writeGP1 w => exact (effect_of_exec h).vrdyAgrees hcfg hs
  | readStatus | setFrameSkip | freeze => cases h; exact hs.of_eq rfl rfl
  | readData => exact readData_vrdyAgrees h hs
  | writeStatusRaw v => exact absurd rfl (hraw v)
  | thaw blob => exact absurd rfl (hthaw blob)
  | powerOn => cases h; exact .of_normal vrdy_csrReset rfl

/-- Settles O58: a step rests or is one port operation, and the two that write `CSR` whole are left out. -/
theorem vrdyMarksOpenReadTransfer : Obligations.VrdyMarksOpenReadTransfer := by
  intro s t hcfg hs h hraw hthaw
  obtain ⟨-, rfl⟩ | ⟨op, rest, hin, hp⟩ := step_next_cases h
  · exact hs
  · exact portStep_vrdyAgrees hp hcfg hs (fun v hop => hraw v rest (hop ▸ hin)) fun blob hop => hthaw blob rest (hop ▸ hin)

/-! ### Status reads (R43, R303) -/

/-- While the counter runs the status word is `CSR` with `IDLE` cleared. -/
theorem State.statusWord_of_busy {s : State} (h : 0 < s.busycnt) : s.statusWord = s.csr &&& ~~~0x04000000#32 := if_pos h

theorem State.statusWord_of_idle {s : State} (h : s.busycnt = 0) : s.statusWord = s.csr := if_neg (by omega)

/-- Every bit of the status word (R303). -/
theorem State.getLsbD_statusWord (s : State) {b : Nat} (hb : b < 32) :
    s.statusWord.getLsbD b = if 0 < s.busycnt ∧ b = 26 then false else s.csr.getLsbD b := by
  rcases Nat.eq_zero_or_pos s.busycnt with h | h
  · rw [State.statusWord_of_idle h, h, if_neg (by omega)]
  · have hclear : s.statusWord = setBit s.csr 26 false := by rw [State.statusWord_of_busy h, setBit_false]; rfl
    rw [hclear, getLsbD_setBit _ _ _ hb]
    simp only [h, true_and]

/-- `n` busy reads and then one idle read (R303). -/
theorem portSteps_readStatus (n : Nat) (s : State) (h : s.busycnt = n) :
    portSteps (List.replicate (n + 1) .readStatus) s = .next { s with
      busycnt := 0
      replies := s.replies ++ List.replicate n (.status (s.csr &&& ~~~0x04000000)) ++ [.status s.csr] } := by
  induction n generalizing s with
  | zero =>
    have hread : portStep .readStatus s = .next { s with busycnt := 0, replies := s.replies ++ [.status s.csr] } := by
      rw [portStep, readStatus, State.statusWord_of_idle h, h]; rfl
    rw [List.replicate_one, portSteps_singleton, hread, List.replicate_zero, List.append_nil]
  | succ n ih =>
    have hread : portStep .readStatus s = .next { s with
        busycnt := n, replies := s.replies ++ [.status (s.csr &&& ~~~0x04000000#32)] } := by
      rw [portStep, readStatus, State.statusWord_of_busy (by omega), h]; rfl
    rw [List.replicate_succ, portSteps_cons_next hread, ih _ rfl, List.replicate_succ]
    simp only [List.append_assoc, List.singleton_append]
    rfl

/-- Settles O48: one read bit by bit, and the reads by induction on the counter. -/
theorem statusReadsOverlayIdle : Obligations.StatusReadsOverlayIdle := fun s =>
  ⟨⟨s.statusWord, rfl, fun _ hb => s.getLsbD_statusWord hb⟩, portSteps_readStatus s.busycnt s rfl⟩

/-! ### Plain ports (R304 to R306, R310) -/

theorem readData_of_normal {s : State} (h : s.rmode = .normal) : readData s = .next (s.answer (.data s.readback)) := by
  rw [readData, h]

/-- What is written raw is what an idle status read returns (R21, R306). -/
theorem portSteps_writeStatusRaw_readStatus {s : State} (v : Word) (h : s.busycnt = 0) :
    portSteps [.writeStatusRaw v, .readStatus] s = .next { s with csr := v, replies := s.replies ++ [.status v] } := by
  have hwrite : portStep (.writeStatusRaw v) s = .next (s.withCsr v) := rfl
  have hread := portSteps_readStatus 0 (s.withCsr v) h
  rw [portSteps_cons_next hwrite]
  rw [List.replicate_one] at hread
  rw [hread]
  simp [State.withCsr, h]

/-- Settles O49: each port's own definition, and the raw write followed by one status read. -/
theorem plainPortsReadAndWrite : Obligations.PlainPortsReadAndWrite := fun _ =>
  ⟨readData_of_normal, fun _ => rfl, fun _ => rfl, fun v h => portSteps_writeStatusRaw_readStatus v h⟩

/-- Settles O52: `PowerOn` builds its state from the one of reset. -/
theorem powerOnRestoresResetTable : Obligations.PowerOnRestoresResetTable := fun s => ⟨s.powerOn, rfl, rfl⟩

/-! ### The status register at reset (R31) -/

/-- The control reset leaves the status register of reset, with its assembler cleared or not (R272). -/
theorem execCReset_csr (m : BitVec 2) (p : BitVec 24) (s : State) :
    ∃ t, execCReset m p s = .next t ∧ t.csr = csrReset := by
  refine ⟨_, execCReset_eq m p s, ?_⟩
  split
  · show csrVrdy csrReset false = csrReset
    decide
  · rfl

/-- Settles O53, bit by bit of the reset value. -/
theorem resetStatusFields : Obligations.ResetStatusFields := by
  refine ⟨?_, rfl, rfl, rfl, rfl, rfl, fun s => ⟨s.powerOn, rfl, rfl⟩, fun s m p => execCReset_csr m p s⟩
  show ∀ b < 32, csrReset.getLsbD b = decide (b = 28 ∨ b = 26 ∨ b = 23 ∨ b = 13)
  decide

/-! ### The display mode (R23, R24, R280) -/

/-- An operand bit of a control word is the bit of the word (R111). -/
theorem getLsbD_colour24 (w : Word) {b : Nat} (hb : b < 24) : (colour24 w).getLsbD b = w.getLsbD b := by
  simp [colour24, hb]

/-- The width key in bits: the one-bit field above the two-bit one (R23, D2). -/
theorem toNat_widthKey (v : Word) : (Csr.widthKey v).toNat =
    4 * (v.getLsbD 16).toNat + (2 * (v.getLsbD 18).toNat + (v.getLsbD 17).toNat) := by
  have hbits : ∀ (a : BitVec 1) (b : BitVec 2), (a ++ b).toNat =
      4 * (a.getLsbD 0).toNat + (2 * (b.getLsbD 1).toNat + (b.getLsbD 0).toNat) := by decide
  rw [Csr.widthKey, hbits]
  simp [Csr.hres2, Csr.hres1]

/-- The height key in bits: the video standard above the interlace-height bit (R24, D2). -/
theorem toNat_heightKey (v : Word) : (Csr.heightKey v).toNat = 2 * (v.getLsbD 20).toNat + (v.getLsbD 19).toNat := by
  have hbits : ∀ a b : BitVec 1, (a ++ b).toNat = 2 * (a.getLsbD 0).toNat + (b.getLsbD 0).toNat := by decide
  rw [Csr.heightKey, hbits]
  simp [Csr.pal, Csr.vres]

/-- The two low bits of a word as a number. -/
theorem toNat_mod_four (w : Word) : w.toNat % 4 = 2 * (w.getLsbD 1).toNat + (w.getLsbD 0).toNat := by
  have hbits : ∀ b : BitVec 2, b.toNat = 2 * (b.getLsbD 1).toNat + (b.getLsbD 0).toNat := by decide
  simpa using hbits (w.setWidth 2)

/-- The display width is the table entry of its key (R23). -/
theorem displayWidth_eq_getD (cfg : Config) (v : Word) :
    Csr.displayWidth cfg v = cfg.dispWidthLut.toList.getD (Csr.widthKey v).toNat 0 := by
  have := (Csr.widthKey v).isLt
  simp [Csr.displayWidth, List.getD_eq_getElem?_getD, this]

/-- The display height is the table entry of its key (R24). -/
theorem displayHeight_eq_getD (cfg : Config) (v : Word) :
    Csr.displayHeight cfg v = cfg.dispHeightLut.toList.getD (Csr.heightKey v).toNat 0 := by
  have := (Csr.heightKey v).isLt
  simp [Csr.displayHeight, List.getD_eq_getElem?_getD, this]

/-- The bits of `CSR` after `C_DISPMODE`, from the bits of its word (R280). -/
theorem getLsbD_csrDisplayMode_colour24 (v w : Word) {b : Nat} (hb : b < 32) :
    (csrDisplayMode v (colour24 w)).getLsbD b =
      if b = 17 then w.getLsbD 0 else if b = 18 then w.getLsbD 1 else if b = 19 then w.getLsbD 2
      else if b = 20 then w.getLsbD 3 else if b = 21 then w.getLsbD 4 else if b = 22 then w.getLsbD 5
      else if b = 16 then w.getLsbD 6 else if b = 14 then w.getLsbD 7 else v.getLsbD b := by
  have hop : ∀ k < 8, (colour24 w).getLsbD k = w.getLsbD k := fun k hk => getLsbD_colour24 w (by omega)
  rw [getLsbD_csrDisplayMode v _ hb, hop 0 (by decide), hop 1 (by decide), hop 2 (by decide), hop 3 (by decide),
    hop 4 (by decide), hop 5 (by decide), hop 6 (by decide), hop 7 (by decide)]

/-- Settles O45: the record of the word, the bits it writes, and the keys they make. -/
theorem displayModeWritesModeBits : Obligations.DisplayModeWritesModeBits := by
  intro s w hw
  have hid : (cmdId w).extractLsb' 0 6 = 0x08 := by
    rw [extractLsb'_canonical (cmdId w) (by rw [hw]; decide), hw]; rfl
  have hbits {b : Nat} (hb : b < 32) := getLsbD_csrDisplayMode_colour24 s.csr w hb
  refine ⟨decodeGP1_eq hw rfl, (s.recorded w).withCsr (csrDisplayMode s.csr (colour24 w)), ?_, rfl, fun b hb => hbits hb, ?_, ?_⟩
  · rw [exec, execCDispmode, recordControl_eq hid]
  · rw [displayWidth_eq_getD, toNat_widthKey, toNat_mod_four, State.withCsr_csr, hbits (by decide), hbits (by decide),
      hbits (by decide)]
    rfl
  · rw [displayHeight_eq_getD, toNat_heightKey, State.withCsr_csr, hbits (by decide), hbits (by decide)]
    rfl

/-! ### Derived values (R25, R26, R32, R34, R138, R139, R326) -/

/-- A bit field as a number: the word divided by the weight of its low end, modulo its size. -/
theorem toNat_extractLsb' {n : Nat} (v : BitVec n) (lo k : Nat) : (v.extractLsb' lo k).toNat = v.toNat / 2 ^ lo % 2 ^ k := by
  rw [BitVec.extractLsb'_toNat, Nat.shiftRight_eq_div_pow]

/-- A bit as a number. -/
theorem toNat_getLsbD {n : Nat} (v : BitVec n) (i : Nat) : (v.getLsbD i).toNat = v.toNat / 2 ^ i % 2 := by
  rw [BitVec.getLsbD, Nat.toNat_testBit]

/-- The texture-page bases of the status word (R26). -/
theorem tpageBase_eq (v : Word) :
    Csr.tpageBaseX v = v.toNat % 16 * 64 ∧ Csr.tpageBaseY v = v.toNat / 16 % 2 * 256 := by
  constructor
  · rw [Csr.tpageBaseX, Csr.tpx, toNat_extractLsb']; norm_num
  · rw [Csr.tpageBaseY, Csr.tpy, toNat_getLsbD]; norm_num

/-- The DMA direction is its number (R25). -/
theorem dmaDirection_iff (v : Word) :
    (dmaDirection v = .off ↔ v.toNat / 2 ^ 29 % 4 = 0) ∧ (dmaDirection v = .fifoQuery ↔ v.toNat / 2 ^ 29 % 4 = 1) ∧
      (dmaDirection v = .cpuToGpu ↔ v.toNat / 2 ^ 29 % 4 = 2) ∧ (dmaDirection v = .gpuToCpu ↔ v.toNat / 2 ^ 29 % 4 = 3) := by
  have hnum : (Csr.dmadir v).toNat = v.toNat / 2 ^ 29 % 4 := toNat_extractLsb' v 29 2
  rw [← hnum, dmaDirection]
  generalize Csr.dmadir v = f
  revert f; decide

/-- The CLUT place of a texture word (R138). -/
theorem clut_highHalf (w : Word) :
    clutX (highHalf w) = w.toNat / 2 ^ 16 % 64 * 16 ∧ clutY (highHalf w) = w.toNat / 2 ^ 22 % 512 := by
  simp only [clutX, clutY, highHalf, toNat_extractLsb']
  omega

/-- The texture-page fields of a texture word (R139). -/
theorem tpage_highHalf (w : Word) : tpageX (highHalf w) = w.toNat / 2 ^ 16 % 16 * 64 ∧
    tpageY (highHalf w) = w.toNat / 2 ^ 20 % 2 * 256 ∧ (tpageAbr (highHalf w)).toNat = w.toNat / 2 ^ 21 % 4 ∧
      (tpageTpf (highHalf w)).toNat = w.toNat / 2 ^ 23 % 4 ∧ tpageDisable (highHalf w) = w.getLsbD 27 := by
  refine ⟨?_, ?_, ?_, ?_, by simp [tpageDisable, highHalf]⟩
  all_goals
    simp only [tpageX, tpageY, tpageAbr, tpageTpf, highHalf, toNat_extractLsb']
    omega

/-- An 11-bit field is read in two's complement (R132). -/
theorem sext11_spec (f : BitVec 11) : -1024 ≤ sext11 f ∧ sext11 f ≤ 1023 ∧ (sext11 f - f.toNat) % 2048 = 0 := by
  have := f.isLt
  rw [sext11, BitVec.toInt_eq_toNat_cond]
  split <;> omega

/-- The drawing offset is two fields of 11 bits (R32). -/
theorem drawOfsFields_spec (v : BitVec 22) : -1024 ≤ (drawOfsFields v).1 ∧ (drawOfsFields v).1 ≤ 1023 ∧
    -1024 ≤ (drawOfsFields v).2 ∧ (drawOfsFields v).2 ≤ 1023 ∧ ((drawOfsFields v).1 - v.toNat) % 2048 = 0 ∧
      ((drawOfsFields v).2 - (v.toNat / 2048 : Nat)) % 2048 = 0 := by
  obtain ⟨hx1, hx2, hx3⟩ := sext11_spec (v.extractLsb' 0 11)
  obtain ⟨hy1, hy2, hy3⟩ := sext11_spec (v.extractLsb' 11 11)
  rw [toNat_extractLsb'] at hx3 hy3
  refine ⟨hx1, hx2, hy1, hy2, ?_, ?_⟩
  all_goals
    simp only [drawOfsFields]
    omega

/-- A corner is a column and a row (R32, R34). -/
theorem cornerFields_toNat (v : BitVec 19) :
    (cornerFields v).1.toNat = v.toNat % 1024 ∧ (cornerFields v).2.toNat = v.toNat / 1024 := by
  have := v.isLt
  simp only [cornerFields, toNat_extractLsb']
  omega

/-- The texture window is four fields of five bits (R32). -/
theorem texwinFields_toNat (v : BitVec 20) :
    (texwinFields v).1.toNat = v.toNat % 32 ∧ (texwinFields v).2.1.toNat = v.toNat / 32 % 32 ∧
      (texwinFields v).2.2.1.toNat = v.toNat / 1024 % 32 ∧ (texwinFields v).2.2.2.toNat = v.toNat / 32768 := by
  have := v.isLt
  simp only [texwinFields, toNat_extractLsb']
  omega

/-- The two ends of the horizontal range (R34). -/
theorem hrangeFields_toNat (v : BitVec 24) :
    (hrangeFields v).1.toNat = v.toNat % 4096 ∧ (hrangeFields v).2.toNat = v.toNat / 4096 := by
  have := v.isLt
  simp only [hrangeFields, toNat_extractLsb']
  omega

/-- The two ends of the vertical range (R34). -/
theorem vrangeFields_toNat (v : BitVec 20) :
    (vrangeFields v).1.toNat = v.toNat % 1024 ∧ (vrangeFields v).2.toNat = v.toNat / 1024 := by
  have := v.isLt
  simp only [vrangeFields, toNat_extractLsb']
  omega

/-- Settles O55, accessor by accessor. -/
theorem derivedAccessorsReadTheirFields : Obligations.DerivedAccessorsReadTheirFields :=
  ⟨tpageBase_eq, dmaDirection_iff, fun _ => rfl, clut_highHalf, tpage_highHalf, drawOfsFields_spec, cornerFields_toNat,
    texwinFields_toNat, hrangeFields_toNat, vrangeFields_toNat⟩

end Sys2Proof.Machine

/-! ## Proofs of the statements of spec/20_memory.md

What a loop or a transfer has stored of a rectangle and what it left alone; then the rectangle commands, the two transfers, and the
save-state record. -/

namespace Sys2Proof.Machine

/-! ### Commands of a fixed length (R102, R113) -/

/-- A command of a fixed length is decoded from its words. -/
theorem decodeGP0_fixed_self {c : Config} {n : Nat} {h : Handler} {w : Word} {ws : List Word}
    (he : c.entry (cmdId w) = some ⟨.fixed n, h⟩) (hw : h.words ≤ n) (hn : (w :: ws).length = n) :
    decodeGP0 c (w :: ws) = .ok (assemble h false (w :: ws), []) := by
  simpa using decodeGP0_fixed (rest := []) he hn hw

/-! ### What a command leaves of VRAM (R70, R160) -/

/-- Settles O57, command by command. -/
theorem onlyFillAndMoveWriteVram : Obligations.OnlyFillAndMoveWriteVram := by
  intro i s t h hfill hmove
  cases i
  case fill c dst size => exact absurd rfl (hfill c dst size)
  case move id src dst size => exact absurd rfl (hmove id src dst size)
  case polyFT3 | polyFT4 | polyGT3 | polyGT4 => cases h; exact State.texpageWriteback_vram s _
  case cReset m p => rw [exec, execCReset_eq] at h; cases h; split <;> rfl
  all_goals cases h; rfl

/-! ### Rectangles (R71, R72, R74) -/

/-- A rectangle of VRAM: its first texel, its width and its height. -/
structure Rect where
  x0 : Nat
  y0 : Nat
  ww : Nat
  hh : Nat

/-- The rectangle that a command's operands name (R81). -/
def Rect.of (pos : Pos) (size : Size) : Rect := ⟨pos.x.toNat, pos.y.toNat, effW size.w, effH size.h⟩

/-- Texel `k` of the rectangle, in raster order (R74). -/
def Rect.texel (r : Rect) (m : Vram) (k : Nat) : BitVec 16 := m.read (r.x0 + k % r.ww) (r.y0 + k / r.ww)

theorem effW_bounds (w : BitVec 10) : 1 ≤ effW w ∧ effW w ≤ 1024 :=
  have ⟨hpos, hle, _⟩ := Cursor.live_start ⟨0, 0⟩ ⟨w, 0⟩
  ⟨hpos, hle⟩

theorem effH_bounds (h : BitVec 9) : 1 ≤ effH h ∧ effH h ≤ 512 :=
  have ⟨_, _, hpos, hle, _⟩ := Cursor.live_start ⟨0, 0⟩ ⟨0, h⟩
  ⟨hpos, hle⟩

/-- Neither byte of a texel outside a rectangle is one of the rectangle's bytes (R72). -/
theorem outsideRect_of_not_inRect {x0 y0 ww hh x y : Nat} (h : ¬inRect x0 y0 ww hh (x % 1024) (y % 512)) :
    outsideRect x0 y0 ww hh (texelAddr x y) ∧ outsideRect x0 y0 ww hh (texelAddr x y + 1) := by
  have hne : ∀ i < ww, ∀ j < hh, texelAddr x y ≠ texelAddr (x0 + i) (y0 + j) := fun i hi j hj he =>
    have ⟨hx, hy⟩ := (texelAddr_eq_iff ..).1 he
    h ⟨i, hi, j, hj, hx, hy⟩
  have heven := texelAddr_even x y
  refine ⟨fun i hi j hj => ⟨hne i hi j hj, ?_⟩, fun i hi j hj => ⟨?_, fun he => hne i hi j hj (Nat.succ.inj he)⟩⟩
  all_goals
    have := texelAddr_even (x0 + i) (y0 + j)
    omega

/-- Texel `k` of a rectangle is at its column and row offsets. -/
theorem Rect.offsets_lt {r : Rect} {k : Nat} (hk : k < r.ww * r.hh) : k % r.ww < r.ww ∧ k / r.ww < r.hh := by
  have hpos : 0 < r.ww := Nat.pos_of_mul_pos_right (Nat.zero_lt_of_lt hk)
  exact ⟨Nat.mod_lt k hpos, (Nat.div_lt_iff_lt_mul hpos).2 (Nat.mul_comm r.ww r.hh ▸ hk)⟩

/-- The texel in column `i` and row `j` has place `j * ww + i` in raster order. -/
theorem raster_div_mod {ww i : Nat} (j : Nat) (hi : i < ww) : (j * ww + i) % ww = i ∧ (j * ww + i) / ww = j := by
  rw [Nat.mul_comm, Nat.mul_add_mod, Nat.mod_eq_of_lt hi, Nat.mul_add_div (by omega), Nat.div_eq_of_lt hi]
  exact ⟨rfl, rfl⟩

theorem raster_lt {ww hh i j : Nat} (hi : i < ww) (hj : j < hh) : j * ww + i < ww * hh :=
  calc j * ww + i < (j + 1) * ww := by rw [Nat.succ_mul]; omega
    _ ≤ hh * ww := Nat.mul_le_mul_right ww hj
    _ = ww * hh := Nat.mul_comm ..

theorem Rect.texel_raster {r : Rect} (m : Vram) {i : Nat} (hi : i < r.ww) (j : Nat) :
    r.texel m (j * r.ww + i) = m.read (r.x0 + i) (r.y0 + j) := by
  obtain ⟨hcol, hrow⟩ := raster_div_mod j hi
  rw [Rect.texel, hcol, hrow]

/-! ### What stores in a rectangle leave alone -/

/-- `m` is canonical, and its bytes outside `r` are those of `m0`. -/
structure Vram.SameOutside (m0 : Vram) (r : Rect) (m : Vram) : Prop where
  wf : m.wf
  bytes : ∀ a, outsideRect r.x0 r.y0 r.ww r.hh a → m.readByte a = m0.readByte a

theorem Vram.SameOutside.refl {m : Vram} (h : m.wf) (r : Rect) : m.SameOutside r m := ⟨h, fun _ _ => rfl⟩

/-- A store to a texel of the rectangle. -/
theorem Vram.SameOutside.write {m0 m : Vram} {r : Rect} (h : m0.SameOutside r m) {i j : Nat} (hi : i < r.ww) (hj : j < r.hh)
    (v : BitVec 16) : m0.SameOutside r (m.write (r.x0 + i) (r.y0 + j) v) :=
  ⟨wf_write h.wf _ _ _, fun a ha => (readByte_write_of_ne h.wf v (ha i hi j hj)).trans (h.bytes a ha)⟩

/-- A masked store to a texel of the rectangle (R80). -/
theorem Vram.SameOutside.writeMasked {m0 m : Vram} {r : Rect} (h : m0.SameOutside r m) (csr : Word) {i j : Nat} (hi : i < r.ww)
    (hj : j < r.hh) (v : BitVec 16) : m0.SameOutside r (Vram.writeMasked csr m (r.x0 + i) (r.y0 + j) v) :=
  ⟨wf_writeMasked csr h.wf _ _ _, fun a ha => (readByte_writeMasked_of_ne csr h.wf v (ha i hi j hj)).trans (h.bytes a ha)⟩

/-- A texel outside the rectangle reads as before. -/
theorem Vram.SameOutside.read {m0 m : Vram} {r : Rect} (h : m0.SameOutside r m) {x y : Nat}
    (hout : ¬inRect r.x0 r.y0 r.ww r.hh (x % 1024) (y % 512)) : m.read x y = m0.read x y := by
  have ⟨hlow, hhigh⟩ := outsideRect_of_not_inRect hout
  rw [Vram.read, Vram.read, h.bytes _ hlow, h.bytes _ hhigh]

/-! ### Masked stores in raster order (R74, R80) -/

/-- `m` is `m0` after masked stores of `texel k` to texel `k` of `r`, for the first `n` texels in raster order. -/
structure Vram.Stored (csr : Word) (m0 : Vram) (r : Rect) (texel : Nat → BitVec 16) (n : Nat) (m : Vram) : Prop
    extends m0.SameOutside r m where
  texels : ∀ k < r.ww * r.hh, r.texel m k = if k < n then maskedResult csr (r.texel m0 k) (texel k) else r.texel m0 k

theorem Vram.Stored.zero (csr : Word) {m : Vram} (h : m.wf) (r : Rect) (texel : Nat → BitVec 16) :
    m.Stored csr r texel 0 m := ⟨.refl h r, fun _ _ => (if_neg (Nat.not_lt_zero _)).symm⟩

/-- The next store, in a rectangle no larger than VRAM: its texel was none of those before it. -/
theorem Vram.Stored.next {csr : Word} {m0 m : Vram} {r : Rect} {texel : Nat → BitVec 16} {n : Nat}
    (h : m0.Stored csr r texel n m) (hw : r.ww ≤ 1024) (hh : r.hh ≤ 512) (hn : n < r.ww * r.hh) :
    m0.Stored csr r texel (n + 1) (Vram.writeMasked csr m (r.x0 + n % r.ww) (r.y0 + n / r.ww) (texel n)) := by
  have ⟨hcol, hrow⟩ := Rect.offsets_lt hn
  refine ⟨h.toSameOutside.writeMasked csr hcol hrow _, fun k hk => ?_⟩
  have hold := h.texels k hk
  simp only [Rect.texel] at hold ⊢
  rw [Vram.read_writeMasked csr h.wf]
  split
  next hsame =>
    obtain rfl : n = k := texelAddr_pos_inj hw hh hn hk ((texelAddr_eq_iff ..).2 hsame)
    rw [hold, if_neg (Nat.lt_irrefl n), if_pos (Nat.lt_succ_self n)]
  next hother =>
    have hne : k ≠ n := fun he => hother (he ▸ ⟨rfl, rfl⟩)
    rw [hold]
    simp only [show k < n + 1 ↔ k < n by omega]

/-- Stores past the last texel are none. -/
theorem Vram.Stored.of_full {csr : Word} {m0 m : Vram} {r : Rect} {texel : Nat → BitVec 16} {n n' : Nat}
    (h : m0.Stored csr r texel n m) (hn : r.ww * r.hh ≤ n) (hn' : r.ww * r.hh ≤ n') : m0.Stored csr r texel n' m := by
  refine ⟨h.toSameOutside, fun k hk => ?_⟩
  rw [h.texels k hk, if_pos (by omega), if_pos (by omega)]

/-! ### The place of a cursor (R205, R207) -/

@[simp] theorem Cursor.next_x0 (c : Cursor) : c.next.x0 = c.x0 := by
  unfold Cursor.next; split
  · exact c.advance_x0
  · rfl

@[simp] theorem Cursor.next_y0 (c : Cursor) : c.next.y0 = c.y0 := by
  unfold Cursor.next; split
  · exact c.advance_y0
  · rfl

/-- The cursor of a transfer of `r` after `k` half-words: on texel `k`, or past the last texel. -/
structure Cursor.At (r : Rect) (k : Nat) (c : Cursor) : Prop where
  x0 : c.x0.toNat = r.x0
  y0 : c.y0.toNat = r.y0
  wid : c.wid = r.ww
  hgt : c.hgt = r.hh
  col : c.col < c.wid
  pos : c.pos = min k (r.ww * r.hh)

theorem Cursor.at_start (p : Pos) (size : Size) : Cursor.At (.of p size) 0 (.start p size) :=
  ⟨rfl, rfl, rfl, rfl, (effW_bounds size.w).1, by simp [Cursor.pos, Cursor.start]⟩

theorem Cursor.At.row_lt_iff {r : Rect} {k : Nat} {c : Cursor} (h : c.At r k) : c.row < c.hgt ↔ k < r.ww * r.hh := by
  rw [Cursor.row_lt_iff h.col, h.pos, h.wid, h.hgt]; omega

/-- While texels are left the cursor is on the next one. -/
theorem Cursor.At.xy {r : Rect} {k : Nat} {c : Cursor} (h : c.At r k) (hk : k < r.ww * r.hh) :
    c.x = r.x0 + k % r.ww ∧ c.y = r.y0 + k / r.ww := by
  have hpos : c.pos = k := by rw [h.pos]; omega
  rw [Cursor.x, Cursor.y, Cursor.col_eq h.col, Cursor.row_eq h.col, hpos, h.wid, h.x0, h.y0]
  exact ⟨rfl, rfl⟩

/-- One half-word on. -/
theorem Cursor.At.next {r : Rect} {k : Nat} {c : Cursor} (h : c.At r k) : c.next.At r (k + 1) := by
  refine ⟨by simp [h.x0], by simp [h.y0], by simp [h.wid], by simp [h.hgt], Cursor.next_col_lt h.col, ?_⟩
  have hpos := h.pos
  by_cases hk : k < r.ww * r.hh
  · rw [Cursor.next_pos h.col (by rw [h.wid, h.hgt]; omega)]
    omega
  · rw [Cursor.next, if_neg (mt h.row_lt_iff.1 hk)]
    omega

/-- The number of words still to come is no part of the place. -/
theorem Cursor.At.withRem {r : Rect} {k : Nat} {c : Cursor} (h : c.At r k) (n : Nat) : Cursor.At r k { c with rem := n } :=
  ⟨h.x0, h.y0, h.wid, h.hgt, h.col, h.pos⟩

/-- A transfer has at least one word, and room for every texel (R87). -/
theorem xferWords_bounds (size : Size) :
    1 ≤ xferWords size ∧ effW size.w * effH size.h ≤ 2 * xferWords size := by
  have : 1 ≤ effW size.w * effH size.h := Nat.mul_pos (effW_bounds size.w).1 (effH_bounds size.h).1
  unfold xferWords; omega

/-- One operation after others. -/
theorem portSteps_snoc {ops : List PortOp} {op : PortOp} {s t : State} (h : portSteps ops s = .next t) :
    portSteps (ops ++ [op]) s = portStep op t :=
  (portSteps_append_next h).trans (portSteps_singleton op t)

/-! ### The payload of a load (R84, R205) -/

theorem streamTexel_even (words : List Word) {n : Nat} (hn : n < words.length) :
    streamTexel words (2 * n) = words[n].extractLsb' 0 16 := by
  simp [streamTexel, hn]

theorem streamTexel_odd (words : List Word) {n : Nat} (hn : n < words.length) :
    streamTexel words (2 * n + 1) = words[n].extractLsb' 16 16 := by
  simp [streamTexel, show (2 * n + 1) / 2 = n by omega, hn]

/-- `t` is `s` after the first `k` half-words of a load to `r`. -/
structure State.Loaded (s : State) (r : Rect) (texel : Nat → BitVec 16) (k : Nat) (t : State) : Prop where
  cursor : t.wcur.At r k
  stored : s.vram.Stored s.csr r texel k t.vram
  frame : t = { s with wmode := t.wmode, wcur := t.wcur, vram := t.vram }

theorem State.Loaded.csr {s t : State} {r : Rect} {texel : Nat → BitVec 16} {k : Nat} (h : s.Loaded r texel k t) :
    t.csr = s.csr := by rw [h.frame]

/-- One half-word more: its texel is stored, or the rectangle is full and it is dropped. -/
theorem State.Loaded.storeHalf {s t : State} {r : Rect} {texel : Nat → BitVec 16} {k : Nat} (h : s.Loaded r texel k t)
    (hw : r.ww ≤ 1024) (hh : r.hh ≤ 512) : s.Loaded r texel (k + 1) (t.storeHalf (texel k)) := by
  refine ⟨by rw [storeHalf_wcur_next]; exact h.cursor.next, ?_, by rw [storeHalf_eq, h.frame]⟩
  rw [storeHalf_vram]
  split
  next hrow =>
    have hk := h.cursor.row_lt_iff.1 hrow
    have ⟨hx, hy⟩ := h.cursor.xy hk
    rw [h.csr, hx, hy]
    exact h.stored.next hw hh hk
  next hrow =>
    have hk := mt h.cursor.row_lt_iff.2 hrow
    exact h.stored.of_full (by omega) (by omega)

/-- One payload word more: two half-words, low half first (R205). -/
theorem State.Loaded.passthroughWord {s t : State} {r : Rect} {texel : Nat → BitVec 16} {n : Nat}
    (h : s.Loaded r texel (2 * n) t) (hw : r.ww ≤ 1024) (hh : r.hh ≤ 512) {w : Word} (hlow : texel (2 * n) = w.extractLsb' 0 16)
    (hhigh : texel (2 * n + 1) = w.extractLsb' 16 16) : s.Loaded r texel (2 * (n + 1)) (t.passthroughWord w) := by
  have htwo := (h.storeHalf hw hh).storeHalf hw hh
  rw [hlow, hhigh] at htwo
  refine ⟨?_, by rw [passthroughWord_eq]; exact htwo.stored, by rw [passthroughWord_eq, h.frame]⟩
  rw [passthroughWord_wcur]
  exact h.cursor.next.next.withRem _

theorem portStep_writeGP0_passthrough {s : State} (h : s.wmode = .passthrough) (w : Word) :
    portStep (.writeGP0 w) s = .next (s.passthroughWord w) := by
  rw [portStep, writeGP0, h]

/-- The first `n` words of a payload are loaded, and the mode ends with the last of all (R205). -/
theorem portSteps_load {s : State} {dst : Pos} {size : Size} {payload : List Word} (hwf : s.vram.wf)
    (hm : s.wmode = .passthrough) (hc : s.wcur = .start dst size) (hlen : payload.length = xferWords size) (n : Nat)
    (hn : n ≤ xferWords size) :
    ∃ t, portSteps (feedGP0 (payload.take n)) s = .next t ∧ s.Loaded (.of dst size) (streamTexel payload) (2 * n) t ∧
      t.wcur.rem = xferWords size - n ∧ t.wmode = if n < xferWords size then .passthrough else .framing := by
  induction n with
  | zero =>
    refine ⟨s, rfl, ⟨hc ▸ Cursor.at_start dst size, .zero _ hwf _ _, rfl⟩, by rw [hc]; rfl, ?_⟩
    exact hm.trans (if_pos (xferWords_bounds size).1).symm
  | succ n ih =>
    obtain ⟨t, hsteps, hload, hrem, hmode⟩ := ih (by omega)
    rw [if_pos (by omega)] at hmode
    have hn' : n < payload.length := by omega
    refine ⟨t.passthroughWord payload[n], ?_, ?_, ?_, ?_⟩
    · rw [← List.take_append_getElem hn', feedGP0, List.map_append]
      exact (portSteps_snoc hsteps).trans (portStep_writeGP0_passthrough hmode _)
    · exact hload.passthroughWord (effW_bounds size.w).2 (effH_bounds size.h).2 (streamTexel_even payload hn')
        (streamTexel_odd payload hn')
    · rw [State.passthroughWord_wcur, ← Nat.sub_sub, ← hrem]
    · rw [State.passthroughWord_wmode, hrem, hmode]
      by_cases hlast : n + 1 < xferWords size
      · rw [if_neg (by omega), if_pos hlast]
      · rw [if_pos (by omega), if_neg hlast]

/-- Settles O36, by induction on the words fed. -/
theorem loadPayloadFillsRectangle : Obligations.LoadPayloadFillsRectangle := by
  intro s dst size payload hwf hm hc hlen
  refine ⟨fun n hn => ?_, ?_⟩
  · obtain ⟨t, hsteps, -, -, hmode⟩ := portSteps_load hwf hm hc hlen n hn.le
    exact ⟨t, hsteps, by rw [hmode, if_pos hn]⟩
  · obtain ⟨t, hsteps, hload, -, hmode⟩ := portSteps_load hwf hm hc hlen _ le_rfl
    rw [if_neg (Nat.lt_irrefl _)] at hmode
    rw [← hlen, List.take_length] at hsteps
    refine ⟨t, hsteps, by rw [← hmode]; exact hload.frame, fun k hk => ?_, hload.stored.bytes⟩
    have hbound := (xferWords_bounds size).2
    exact (hload.stored.texels k hk).trans (if_pos (by omega))

/-! ### The words of a store (R85, R207) -/

/-- Texel `k` of the stream a store gives: zero past the last texel (R207). -/
def Rect.streamed (r : Rect) (m : Vram) (k : Nat) : BitVec 16 := if k < r.ww * r.hh then r.texel m k else 0

theorem readHalf_at {r : Rect} {k : Nat} {c : Cursor} (h : c.At r k) (m : Vram) : (readHalf m c).1 = r.streamed m k := by
  unfold readHalf Rect.streamed
  simp only [h.row_lt_iff]
  split
  next hk =>
    have ⟨hx, hy⟩ := h.xy hk
    rw [hx, hy]; rfl
  next => rfl

/-- Two half-words, low half first (R207). -/
theorem State.readTransferWord_at {s : State} {r : Rect} {k : Nat} (h : s.rcur.At r k) :
    s.readTransferWord = r.streamed s.vram (k + 1) ++ r.streamed s.vram k := by
  rw [State.readTransferWord, readHalf_cursor, readHalf_at h, readHalf_at h.next]

/-- A read of an open transfer replies with the next two texels. -/
theorem portStep_readData_at {s : State} (hm : s.rmode = .vramRead) {r : Rect} {k : Nat} (h : s.rcur.At r k) :
    portStep .readData s =
      .next (s.afterReadTransfer.answer (.data (r.streamed s.vram (k + 1) ++ r.streamed s.vram k))) := by
  rw [portStep, readData, hm, ← State.readTransferWord_at h]

/-- What the first `n` reads of a store reply. -/
def Rect.dataReplies (r : Rect) (m : Vram) (n : Nat) : List Reply :=
  (List.range n).map fun n => .data (r.streamed m (2 * n + 1) ++ r.streamed m (2 * n))

theorem Rect.dataReplies_succ (r : Rect) (m : Vram) (n : Nat) : r.dataReplies m (n + 1) =
    r.dataReplies m n ++ [.data (r.streamed m (2 * n + 1) ++ r.streamed m (2 * n))] := by
  rw [dataReplies, List.range_succ, List.map_append]; rfl

/-- `s` after `n` reads of a store of `r`, none of them the last, with the cursor at `c`. -/
def State.reading (s : State) (r : Rect) (c : Cursor) (n : Nat) : State :=
  { s with rcur := c, replies := s.replies ++ r.dataReplies s.vram n }

theorem State.reading_succ (s : State) (r : Rect) (c : Cursor) (n : Nat) : s.reading r c (n + 1) =
    { s with
      rcur := c
      replies := s.replies ++ r.dataReplies s.vram n ++
        [.data (r.streamed s.vram (2 * n + 1) ++ r.streamed s.vram (2 * n))] } := by
  rw [State.reading, Rect.dataReplies_succ, List.append_assoc]

/-- A read that is not the last moves the cursor on and replies (R207). -/
theorem portStep_readData_reading {s : State} {r : Rect} {c : Cursor} {n : Nat} (hm : s.rmode = .vramRead) (hat : c.At r (2 * n))
    (hrem : c.rem - 1 ≠ 0) : portStep .readData (s.reading r c n) =
      .next (s.reading r { c.next.next with rem := c.rem - 1 } (n + 1)) := by
  rw [portStep_readData_at (s := s.reading r c n) hm hat, State.afterReadTransfer_of_ne (s := s.reading r c n) hrem,
    State.reading_succ]
  rfl

/-- The last read closes the transfer and clears `VRDY` besides (R207). -/
theorem portStep_readData_last {s : State} {r : Rect} {c : Cursor} {n : Nat} (hm : s.rmode = .vramRead) (hat : c.At r (2 * n))
    (hrem : c.rem - 1 = 0) : portStep .readData (s.reading r c n) =
      .next { s.reading r { c.next.next with rem := c.rem - 1 } (n + 1) with
        rmode := .normal, csr := s.csr &&& ~~~0x08000000 } := by
  rw [portStep_readData_at (s := s.reading r c n) hm hat, State.afterReadTransfer_of_eq (s := s.reading r c n) hrem,
    csrVrdy_false, State.reading_succ]
  rfl

/-- The reads before the last leave the transfer open, its cursor at the next texels. -/
theorem portSteps_store {s : State} {src : Pos} {size : Size} (hm : s.rmode = .vramRead) (hc : s.rcur = .start src size) (n : Nat)
    (hn : n < xferWords size) : ∃ c : Cursor, c.At (.of src size) (2 * n) ∧ c.rem = xferWords size - n ∧
      portSteps (List.replicate n .readData) s = .next (s.reading (.of src size) c n) := by
  induction n with
  | zero =>
    refine ⟨s.rcur, hc ▸ Cursor.at_start src size, by rw [hc]; rfl, ?_⟩
    simp [State.reading, Rect.dataReplies]
  | succ n ih =>
    obtain ⟨c, hat, hrem, hsteps⟩ := ih (by omega)
    refine ⟨{ c.next.next with rem := c.rem - 1 }, hat.next.next.withRem _, by rw [hrem, Nat.sub_sub], ?_⟩
    rw [List.replicate_succ', portSteps_snoc hsteps, portStep_readData_reading hm hat (by omega)]

/-- Settles O37: all reads but the last, by induction on their number, and the last, which closes the transfer. -/
theorem storeReadsRectangle : Obligations.StoreReadsRectangle := by
  intro s src size hm hc
  obtain ⟨n, hn⟩ : ∃ n, xferWords size = n + 1 := ⟨_, (Nat.sub_add_cancel (xferWords_bounds size).1).symm⟩
  obtain ⟨c, hat, hrem, hsteps⟩ := portSteps_store hm hc n (by omega)
  have hlast := portStep_readData_last hm hat (by omega)
  rw [← portSteps_snoc hsteps, ← List.replicate_succ', ← hn] at hlast
  exact ⟨_, hlast, rfl⟩

/-! ### Loops that store everywhere (R82) -/

/-- What one round of a descending loop establishes and every round keeps holds after it. -/
theorem forDown_establishes {α : Type} {P Q : α → Prop} {f : Nat → α → α} {n i : Nat} {m : α} (hi : i < n) (h0 : P m)
    (hP : ∀ k < n, ∀ m, P m → P (f k m)) (hround : ∀ m, P m → Q (f i m)) (hQ : ∀ k < n, ∀ m, Q m → Q (f k m)) :
    Q (forDown n f m) := by
  induction n generalizing m with
  | zero => omega
  | succ n ih =>
    rw [forDown]
    rcases Nat.lt_succ_iff_lt_or_eq.1 hi with hlt | rfl
    · exact ih hlt (hP n (Nat.lt_succ_self n) m h0) (fun k hk => hP k (by omega)) fun k hk => hQ k (by omega)
    · exact forDown_keeps (hround m h0) fun k hk => hQ k (by omega)

/-- The rectangle that a fill covers (R82). -/
def fillRect (align : Bool) (dst : Pos) (size : Size) : Rect :=
  ⟨fillStart align dst.x, dst.y.toNat, fillWidth size.w, effH size.h⟩

/-- A fill changes nothing outside its rectangle. -/
theorem sameOutside_fillRectangle {m : Vram} (hwf : m.wf) (align : Bool) (dst : Pos) (size : Size) (c : BitVec 16) :
    m.SameOutside (fillRect align dst size) (fillRectangle align dst size c m) :=
  forDown_keeps (.refl hwf _) fun _ hj _ h => forDown_keeps h fun _ hi _ h => h.write hi hj c

/-- `m` is canonical and holds `v` at texel (x, y). -/
structure Vram.Holds (x y : Nat) (v : BitVec 16) (m : Vram) : Prop where
  wf : m.wf
  read : m.read x y = v

/-- A texel that holds `v` does so after a store of `v` anywhere. -/
theorem Vram.Holds.write {m : Vram} {x y : Nat} {v : BitVec 16} (h : m.Holds x y v) (x' y' : Nat) :
    (m.write x' y' v).Holds x y v :=
  ⟨wf_write h.wf _ _ _, by rw [read_write h.wf, h.read, ite_self]⟩

theorem Vram.holds_write {m : Vram} (h : m.wf) (x y : Nat) (v : BitVec 16) : (m.write x y v).Holds x y v :=
  ⟨wf_write h _ _ _, by rw [read_write h, if_pos ⟨rfl, rfl⟩]⟩

/-- A fill leaves its colour at every texel of its rectangle. -/
theorem holds_fillRectangle {m : Vram} (hwf : m.wf) (align : Bool) (dst : Pos) (size : Size) (c : BitVec 16) {i j : Nat}
    (hi : i < fillWidth size.w) (hj : j < effH size.h) :
    (fillRectangle align dst size c m).Holds (fillStart align dst.x + i) (dst.y.toNat + j) c := by
  refine forDown_establishes (P := Vram.wf) (Q := Vram.Holds _ _ c) hj hwf
    (fun _ _ _ h => forDown_keeps h fun _ _ _ h => Vram.wf_write h _ _ _) (fun m h => ?_)
    fun _ _ _ h => forDown_keeps h fun _ _ _ h => h.write _ _
  exact forDown_establishes (P := Vram.wf) (Q := Vram.Holds _ _ c) hi h (fun _ _ _ h => Vram.wf_write h _ _ _)
    (fun _ h => Vram.holds_write h _ _ _) fun _ _ _ h => h.write _ _

/-- The start column of a fill, as a number (R82). -/
theorem fillStart_eq (align : Bool) (x : BitVec 10) : fillStart align x = if align then x.toNat / 16 * 16 else x.toNat := by
  have hmask : x &&& 0x3F0#10 = (x >>> 4) <<< 4 := by
    apply BitVec.eq_of_getLsbD_eq
    intro b hb
    interval_cases b <;> simp
  have hlt := x.isLt
  cases align with
  | false => rfl
  | true =>
    simp only [fillStart, if_true, hmask, BitVec.toNat_shiftLeft, BitVec.toNat_ushiftRight, Nat.shiftLeft_eq,
      Nat.shiftRight_eq_div_pow]
    omega

/-- Settles O32, from what a fill leaves inside and outside its rectangle. -/
theorem fillOverwritesRectangle : Obligations.FillOverwritesRectangle := by
  intro s extra w0 w1 w2 hwf dst size i x0 ww hh
  have hx0 : fillStart s.cfg.fillXAlign16 dst.x = x0 := fillStart_eq _ _
  refine ⟨fun he => decodeGP0_fixed_self he (Nat.le_add_right ..) (by simp; omega), _, rfl, rfl, ?_, ?_⟩
  · rintro x y - - ⟨i, hi, j, hj, rfl, rfl⟩
    rw [Vram.read_mod, ← hx0]
    exact (holds_fillRectangle hwf _ dst size _ hi hj).read
  · rw [← hx0]
    exact (sameOutside_fillRectangle hwf _ dst size _).bytes

/-! ### Copies (R83) -/

/-- A copy changes nothing outside its destination. -/
theorem sameOutside_copyRectangle {m : Vram} (hwf : m.wf) (csr : Word) (src dst : Pos) (size : Size) :
    m.SameOutside (.of dst size) (copyRectangle csr src dst size m) :=
  forUp_keeps (.refl hwf _) fun _ hj _ h => forUp_keeps h fun _ hi _ h => h.writeMasked csr hi hj _

/-- The invariant rule of a loop over a rectangle in raster order: `P k` holds before texel `k`. -/
theorem forUp_raster {α : Type} {P : Nat → α → Prop} {f : Nat → Nat → α → α} {ww hh : Nat} {m : α} (h0 : P 0 m)
    (hs : ∀ k < ww * hh, ∀ m, P k m → P (k + 1) (f (k / ww) (k % ww) m)) :
    P (ww * hh) (forUp hh (fun j m => forUp ww (f j) m) m) := by
  rw [Nat.mul_comm]
  refine forUp_induct (P := fun j => P (j * ww)) (by rwa [Nat.zero_mul]) fun j hj m h => ?_
  rw [Nat.succ_mul]
  refine forUp_induct (P := fun i => P (j * ww + i)) h fun i hi m h => ?_
  obtain ⟨hcol, hrow⟩ := raster_div_mod j hi
  have := hs _ (raster_lt hi hj) m h
  rwa [hrow, hcol] at this

/-- When no texel is in both rectangles, a copy stores the texels the source had, in raster order. -/
theorem stored_copyRectangle {m : Vram} (hwf : m.wf) (csr : Word) (src dst : Pos) (size : Size)
    (hdisjoint : ∀ x y, ¬(inRect src.x.toNat src.y.toNat (effW size.w) (effH size.h) x y ∧
      inRect dst.x.toNat dst.y.toNat (effW size.w) (effH size.h) x y)) :
    m.Stored csr (.of dst size) ((Rect.of src size).texel m) (effW size.w * effH size.h) (copyRectangle csr src dst size m) := by
  refine forUp_raster (P := Vram.Stored csr m (.of dst size) ((Rect.of src size).texel m)) (.zero csr hwf _ _) fun k hk m' h => ?_
  have ⟨hcol, hrow⟩ := Rect.offsets_lt (r := .of src size) hk
  have hsrc := h.toSameOutside.read fun hin => hdisjoint _ _ ⟨⟨_, hcol, _, hrow, rfl, rfl⟩, hin⟩
  rw [show m'.read (src.x.toNat + k % effW size.w) (src.y.toNat + k / effW size.w) = (Rect.of src size).texel m k from hsrc]
  exact h.next (effW_bounds size.w).2 (effH_bounds size.h).2 hk

/-- So each destination texel is the masked store of its source texel over what it held. -/
theorem read_copyRectangle {m : Vram} (hwf : m.wf) (csr : Word) {src dst : Pos} {size : Size}
    (hdisjoint : ∀ x y, ¬(inRect src.x.toNat src.y.toNat (effW size.w) (effH size.h) x y ∧
      inRect dst.x.toNat dst.y.toNat (effW size.w) (effH size.h) x y)) {i j : Nat} (hi : i < effW size.w) (hj : j < effH size.h) :
    (copyRectangle csr src dst size m).read (dst.x.toNat + i) (dst.y.toNat + j) =
      maskedResult csr (m.read (dst.x.toNat + i) (dst.y.toNat + j)) (m.read (src.x.toNat + i) (src.y.toNat + j)) := by
  have htexel (p : Pos) (m : Vram) : (Rect.of p size).texel m (j * effW size.w + i) = m.read (p.x.toNat + i) (p.y.toNat + j) :=
    Rect.texel_raster m hi j
  have hk := raster_lt hi hj
  rw [← htexel, ← htexel, ← htexel]
  exact ((stored_copyRectangle hwf csr src dst size hdisjoint).texels _ hk).trans (if_pos hk)

/-- Settles O33, from what a copy leaves outside its destination and stores inside it. -/
theorem moveCopiesRectangle : Obligations.MoveCopiesRectangle := by
  intro s extra w0 w1 w2 w3 hwf src dst size i ww hh
  refine ⟨fun he => decodeGP0_fixed_self he (Nat.le_add_right ..) (by simp; omega), _, rfl, rfl,
    (sameOutside_copyRectangle hwf s.csr src dst size).bytes,
    fun hdisjoint _ ha _ hb => read_copyRectangle hwf s.csr hdisjoint ha hb⟩

/-- With no mask policy a masked store is a store (R80). -/
theorem maskedResult_of_off {csr : Word} (hmd : Csr.md csr = false) (hme : Csr.me csr = false) (old v : BitVec 16) :
    maskedResult csr old v = v := by
  simp [maskedResult, hmd, hme]

/-- `m` is canonical and has the texel that `m0` has at (x, y) there and in the `n` columns after it. -/
structure Vram.Spread (m0 : Vram) (x y n : Nat) (m : Vram) : Prop where
  wf : m.wf
  read : ∀ a ≤ n, m.read (x + a) y = m0.read x y

/-- With no mask policy, before the copy of column `n` to the next, the first texel has spread to columns 0 to `n`. -/
theorem forUp_shift {csr : Word} (hmd : Csr.md csr = false) (hme : Csr.me csr = false) {m : Vram} (hwf : m.wf) (x : BitVec 10)
    (y n : Nat) :
    Vram.Spread m x.toNat y n
      (forUp n (fun i m => Vram.writeMasked csr m ((x + 1).toNat + i) y (m.read (x.toNat + i) y)) m) := by
  refine forUp_induct (P := Vram.Spread m x.toNat y) ?_ ?_
  · exact ⟨hwf, fun a ha => by rw [Nat.le_zero.1 ha, Nat.add_zero]⟩
  · rintro i - t ⟨hwf', ht⟩
    refine ⟨Vram.wf_writeMasked csr hwf' _ _ _, fun a ha => ?_⟩
    rw [Vram.read_writeMasked csr hwf', maskedResult_of_off hmd hme, ht i le_rfl]
    split
    next => rfl
    next hother =>
      have hx : (x + 1).toNat = (x.toNat + 1) % 1024 := by rw [BitVec.toNat_add]; rfl
      exact ht a (by omega)

/-- Settles O34, by the one row of the copy. -/
theorem overlappingMoveReadsNewTexels : Obligations.OverlappingMoveReadsNewTexels := by
  intro s id x y w hwf hmd hme
  refine ⟨_, rfl, fun a ha => ?_⟩
  rw [Nat.add_assoc, Nat.add_comm 1 a]
  exact (forUp_shift hmd hme hwf x y.toNat (effW w)).read (a + 1) ha

/-! ### The headers of `LOAD` and `STORE` (R204, R206) -/

/-- `VRDY` is no part of a snapshot (R33). -/
theorem State.snapshot_csrVrdy (s : State) (x : Bool) : (s.withCsr (csrVrdy s.csr x)).snapshot = s.snapshot := by
  have hbit : ∀ b < 27, (csrVrdy s.csr x).getLsbD b = s.csr.getLsbD b := fun b hb => by
    rw [getLsbD_csrVrdy _ _ (by omega), if_neg (by omega)]
  have hmode : Csr.mode (csrVrdy s.csr x) = Csr.mode s.csr := by
    apply BitVec.eq_of_getLsbD_eq
    intro b hb
    simp only [Csr.mode, BitVec.getLsbD_extractLsb', hbit (0 + b) (by omega)]
  simp only [State.snapshot, State.withCsr, hmode, Csr.md, Csr.me, Csr.txd, hbit 11 (by omega), hbit 12 (by omega),
    hbit 15 (by omega)]

/-- Settles O35: the words of each header, and what running it sets. -/
theorem transferHeadersOpenTransfers : Obligations.TransferHeadersOpenTransfers := by
  intro s extra w0 w1 w2 pos size ww hh cursor
  have hlen : (w0 :: w1 :: w2 :: extra).length = 3 + extra.length := by simp; omega
  refine ⟨⟨fun he => decodeGP0_fixed_self he (Nat.le_add_right ..) hlen, rfl⟩,
    fun he => decodeGP0_fixed_self he (Nat.le_add_right ..) hlen, ?_⟩
  have hvrdy : s.csr ||| 0x08000000 = csrVrdy s.csr true := (csrVrdy_true s.csr).symm
  rw [hvrdy, ← s.snapshot_csrVrdy true]
  rfl

/-! ### The save-state record (R307 to R309) -/

/-- The fields of a record, in order (R308). -/
theorem State.blob_eq (s : State) :
    s.blob = le32 s.cfg.freezeVersion ++ (le32 s.csr ++ (s.ctrlhist.toList.flatMap le32 ++ s.vram.image)) := by
  simp only [State.blob, List.append_assoc]

/-- A place of a record past the version and `CSR`. -/
theorem State.getElem?_blob_add (s : State) (k : Nat) :
    s.blob[8 + k]? = (s.ctrlhist.toList.flatMap le32 ++ s.vram.image)[k]? := by
  rw [s.blob_eq, show 8 + k = 4 + (4 + k) by omega, getElem?_le32_add, getElem?_le32_add]

theorem State.getElem?_blob_version (s : State) {k : Nat} (hk : k < 4) :
    s.blob[k]? = some (s.cfg.freezeVersion.extractLsb' (8 * k) 8) := by
  rw [s.blob_eq, getElem?_le32 _ _ hk]

theorem State.getElem?_blob_csr (s : State) {k : Nat} (hk : k < 4) : s.blob[4 + k]? = some (s.csr.extractLsb' (8 * k) 8) := by
  rw [s.blob_eq, getElem?_le32_add, getElem?_le32 _ _ hk]

theorem State.getElem?_blob_ctrlhist (s : State) (i : Fin 256) {k : Nat} (hk : k < 4) :
    s.blob[8 + 4 * i.val + k]? = some ((s.ctrlhist[i]).extractLsb' (8 * k) 8) := by
  rw [Nat.add_assoc, s.getElem?_blob_add, getElem?_flatMap_le32 _ _ (by simp) hk]
  simp

/-- The history takes 1024 bytes, so the image of VRAM begins at byte 1032 (R308). -/
theorem State.length_blob_ctrlhist (s : State) : (s.ctrlhist.toList.flatMap le32).length = 1024 := by
  rw [length_flatMap_le32, Vector.length_toList]

theorem State.getElem?_blob_image (s : State) {a : Nat} (ha : a < vramBytes) :
    s.blob[1032 + a]? = some (s.vram.readByte a) := by
  have hlen := s.length_blob_ctrlhist
  rw [show 1032 + a = 8 + (1024 + a) by omega, s.getElem?_blob_add, List.getElem?_append_right (by omega), hlen,
    Nat.add_sub_cancel_left, s.vram.getElem?_image ha]

/-- The image of VRAM is the end of a record. -/
theorem State.drop_blob (s : State) : s.blob.drop 1032 = s.vram.image := by
  have hlen : (le32 s.cfg.freezeVersion ++ le32 s.csr ++ s.ctrlhist.toList.flatMap le32).length = 1032 := by
    rw [List.length_append, s.length_blob_ctrlhist]; rfl
  rw [State.blob, ← hlen, List.drop_left]

/-- The two bytes of a texel (R72). -/
theorem Vram.extract_read (m : Vram) (x y : Nat) : (m.read x y).extractLsb' 0 8 = m.readByte (texelAddr x y) ∧
    (m.read x y).extractLsb' 8 8 = m.readByte (texelAddr x y + 1) :=
  ⟨extractLsb'_append_low _ _, extractLsb'_append_high _ _⟩

theorem State.accepts_blob {s t : State} (h : s.cfg.freezeVersion = t.cfg.freezeVersion) : t.accepts s.blob = true := by
  rw [State.accepts, length_blob, s.blob_eq, wordAt_le32, h, beq_self_eq_true, beq_self_eq_true]
  rfl

theorem State.wordAt_blob_csr (s : State) : wordAt s.blob 4 = s.csr := by
  rw [s.blob_eq]
  exact (wordAt_le32_add _ _ 0).trans (wordAt_le32 _ _)

theorem State.wordAt_blob_ctrlhist (s : State) (i : Fin 256) : wordAt s.blob (8 + 4 * i.val) = s.ctrlhist[i] := by
  rw [s.blob_eq, show 8 + 4 * i.val = 4 * i.val + 4 + 4 by omega, wordAt_le32_add, wordAt_le32_add,
    wordAt_flatMap _ _ (by simp)]
  simp

/-- A thaw of the record of `s` restores what the record holds (R309). -/
theorem State.restore_blob (s t : State) : (t.restore s.blob).csr = s.csr ∧ (t.restore s.blob).ctrlhist = s.ctrlhist ∧
    ∀ a < vramBytes, (t.restore s.blob).vram.readByte a = s.vram.readByte a := by
  refine ⟨s.wordAt_blob_csr, ?_, fun a ha => ?_⟩
  · refine Vector.ext fun i hi => ?_
    rw [State.restore, Vector.getElem_ofFn]
    exact s.wordAt_blob_ctrlhist ⟨i, hi⟩
  · show (Vram.ofImage t.vram.epoch (s.blob.drop 1032)).readByte a = _
    rw [Vram.readByte_ofImage, s.drop_blob, Vram.getD_image _ ha]

/-- A record depends on the version, `CSR`, the history and the bytes of VRAM only. -/
theorem State.blob_congr {s u : State} (hversion : u.cfg.freezeVersion = s.cfg.freezeVersion) (hcsr : u.csr = s.csr)
    (hhist : u.ctrlhist = s.ctrlhist) (hvram : ∀ a < vramBytes, u.vram.readByte a = s.vram.readByte a) : u.blob = s.blob := by
  have himage : u.vram.image = s.vram.image := List.map_congr_left fun a ha => hvram a (List.mem_range.1 ha)
  rw [State.blob, State.blob, hversion, hcsr, hhist, himage]

/-- Settles O50: the layout field by field, and what the thaw of a record restores. -/
theorem freezeThawRoundTrip : Obligations.FreezeThawRoundTrip := by
  refine ⟨fun s => ⟨rfl, length_blob s, fun k => s.getElem?_blob_version, fun k => s.getElem?_blob_csr,
    fun i k => s.getElem?_blob_ctrlhist i, fun a => s.getElem?_blob_image, fun x hx y hy => ?_⟩, fun s t h => ?_⟩
  · have haddr : texelAddr x y = 2 * (1024 * y + x) := by rw [texelAddr, Nat.mod_eq_of_lt hx, Nat.mod_eq_of_lt hy]
    have hlt := texelAddr_lt x y
    obtain ⟨hlow, hhigh⟩ := s.vram.extract_read x y
    rw [hlow, hhigh, ← haddr]
    exact ⟨s.getElem?_blob_image (Nat.lt_of_succ_lt hlt), s.getElem?_blob_image hlt⟩
  · obtain ⟨hcsr, hhist, hvram⟩ := s.restore_blob t
    have hthaw : portStep (.thaw s.blob) t = .next ((t.restore s.blob).answer (.thawed true)) := if_pos (State.accepts_blob h)
    exact ⟨_, hthaw, rfl, hcsr, hhist, hvram, rfl, rfl, rfl, rfl, rfl, rfl, rfl, State.blob_congr h.symm hcsr hhist hvram⟩

end Sys2Proof.Machine

/-! ## Proofs of the statements of spec/30_encoding.md

The windows of the field readers; then the unknown ids and the unknown commands; then the control words and a few words written out. -/

namespace Sys2Proof

/-! ### Windows of a word (R101, R114, R131 to R141) -/

/-- The word whose ones are the `k` bits from bit `lo`. -/
def windowMask (lo k : Nat) : Word := (BitVec.allOnes k).setWidth 32 <<< lo

theorem getLsbD_windowMask (lo k : Nat) {b : Nat} (hb : b < 32) :
    (windowMask lo k).getLsbD b = decide (lo ≤ b ∧ b < lo + k) := by
  rw [windowMask, BitVec.getLsbD_shiftLeft, BitVec.getLsbD_setWidth, BitVec.getLsbD_allOnes, Bool.eq_iff_iff]
  simp only [Bool.and_eq_true, Bool.not_eq_true', decide_eq_true_eq, decide_eq_false_iff_not]
  omega

/-- Two words have the same ones in a mask iff they agree on each bit of it. -/
theorem and_eq_and_iff (w w' m : Word) :
    w &&& m = w' &&& m ↔ ∀ b < 32, m.getLsbD b = true → w.getLsbD b = w'.getLsbD b := by
  constructor
  · intro h b _ hm
    simpa [BitVec.getLsbD_and, hm] using congrArg (·.getLsbD b) h
  · intro h
    refine BitVec.eq_of_getLsbD_eq fun b hb => ?_
    rw [BitVec.getLsbD_and, BitVec.getLsbD_and]
    cases hm : m.getLsbD b
    · rw [Bool.and_false, Bool.and_false]
    · rw [h b hb hm]

/-- Two words have the same field iff they agree on the bits of its window. -/
theorem extractLsb'_eq_iff (w w' : Word) (lo k : Nat) :
    w.extractLsb' lo k = w'.extractLsb' lo k ↔ w &&& windowMask lo k = w' &&& windowMask lo k := by
  rw [and_eq_and_iff]
  constructor
  · intro h b hb hm
    rw [getLsbD_windowMask lo k hb, decide_eq_true_eq] at hm
    have hbit := congrArg (·.getLsbD (b - lo)) h
    simpa [BitVec.getLsbD_extractLsb', show b - lo < k by omega, show lo + (b - lo) = b by omega] using hbit
  · intro h
    refine BitVec.eq_of_getLsbD_eq fun b hb => ?_
    rw [BitVec.getLsbD_extractLsb', BitVec.getLsbD_extractLsb']
    by_cases hlo : lo + b < 32
    · rw [h (lo + b) hlo (by rw [getLsbD_windowMask lo k hlo, decide_eq_true_eq]; omega)]
    · rw [BitVec.getLsbD_of_ge w _ (by omega), BitVec.getLsbD_of_ge w' _ (by omega)]

/-- Two words agree on two masks together iff they agree on each. -/
theorem and_or_eq_and_or_iff (w w' m n : Word) :
    w &&& (m ||| n) = w' &&& (m ||| n) ↔ w &&& m = w' &&& m ∧ w &&& n = w' &&& n := by
  simp only [and_eq_and_iff, BitVec.getLsbD_or, Bool.or_eq_true]
  exact ⟨fun h => ⟨fun b hb hm => h b hb (.inl hm), fun b hb hn => h b hb (.inr hn)⟩,
    fun ⟨hm, hn⟩ b hb => (·.elim (hm b hb) (hn b hb))⟩

/-- Two words have the same two fields iff they agree on the bits of both windows. -/
theorem extractLsb'_pair_eq_iff (w w' : Word) (lo k lo' k' : Nat) :
    w.extractLsb' lo k = w'.extractLsb' lo k ∧ w.extractLsb' lo' k' = w'.extractLsb' lo' k' ↔
      w &&& (windowMask lo k ||| windowMask lo' k') = w' &&& (windowMask lo k ||| windowMask lo' k') := by
  rw [and_or_eq_and_or_iff, extractLsb'_eq_iff, extractLsb'_eq_iff]

theorem vtxOf_eq_iff (w w' : Word) : vtxOf w = vtxOf w' ↔ w &&& 0x07FF07FF = w' &&& 0x07FF07FF :=
  (Vtx.mk.injEq ..).to_iff.trans (extractLsb'_pair_eq_iff w w' 0 11 16 11)

theorem sizeFieldsOf_eq_iff (w w' : Word) : sizeFieldsOf w = sizeFieldsOf w' ↔ w &&& 0x01FF03FF = w' &&& 0x01FF03FF :=
  (Size.mk.injEq ..).to_iff.trans (extractLsb'_pair_eq_iff w w' 0 10 16 9)

theorem posOf_eq_iff (w w' : Word) : posOf w = posOf w' ↔ w &&& 0x01FF03FF = w' &&& 0x01FF03FF :=
  (Pos.mk.injEq ..).to_iff.trans (extractLsb'_pair_eq_iff w w' 0 10 16 9)

theorem uvOf_eq_iff (w w' : Word) : uvOf w = uvOf w' ↔ w &&& 0x0000FFFF = w' &&& 0x0000FFFF :=
  (Uv.mk.injEq ..).to_iff.trans (extractLsb'_pair_eq_iff w w' 0 8 8 8)

end Sys2Proof

namespace Sys2Proof.Machine

/-- Settles O8: each field as a number, then the windows reader by reader. -/
theorem readersUseExactlyTheirBits : Obligations.ReadersUseExactlyTheirBits := by
  refine ⟨fun w => ?_, fun w w' => ⟨extractLsb'_eq_iff w w' 24 8, vtxOf_eq_iff w w', sizeFieldsOf_eq_iff w w',
    posOf_eq_iff w w', extractLsb'_eq_iff w w' 0 24, uvOf_eq_iff w w', extractLsb'_eq_iff w w' 16 16⟩⟩
  have := w.isLt
  simp only [cmdId, vtxOf, sizeFieldsOf, posOf, uvOf, highHalf, channels, colour24, toNat_extractLsb']
  omega

/-! ### Unknown ids (R110, R242) -/

/-- The rows of R108 leave no id out. -/
theorem exists_dispatchRow : ∀ id : BitVec 8, ∃ r ∈ dispatchRows, r.lo ≤ id.toNat ∧ id.toNat ≤ r.hi := by
  decide +kernel

/-- An id has no entry in the default table iff its row of R108 has none. -/
theorem default_entry_eq_none_iff (id : BitVec 8) : Config.default.entry id = none ↔
    ∃ r ∈ dispatchRows.filter (·.entry = none), r.lo ≤ id.toNat ∧ id.toNat ≤ r.hi := by
  obtain ⟨r, hr, hlo, hhi⟩ := exists_dispatchRow id
  constructor
  · intro h
    rw [default_entry_of_row hr id hlo hhi] at h
    exact ⟨r, List.mem_filter.2 ⟨hr, decide_eq_true h⟩, hlo, hhi⟩
  · rintro ⟨r, hr, hlo, hhi⟩
    obtain ⟨hr, he⟩ := List.mem_filter.1 hr
    rw [default_entry_of_row hr id hlo hhi, of_decide_eq_true he]

/-- The rows of R108 with no entry: the ranges that R110 lists. -/
theorem filter_dispatchRows_none : dispatchRows.filter (·.entry = none) =
    [⟨0x00, 0x01, none⟩, ⟨0x03, 0x1E, none⟩, ⟨0x81, 0x9F, none⟩, ⟨0xA1, 0xBF, none⟩, ⟨0xC1, 0xE0, none⟩, ⟨0xE7, 0xFF, none⟩] :=
  rfl

/-- Settles O14: the word is discarded, and the ids are those of the rows with no entry. -/
theorem unknownIdDiscardsOneWord : Obligations.UnknownIdDiscardsOneWord := by
  refine ⟨fun s w hm hc he => writeGP0_of_unknown hm hc he, fun w => ?_⟩
  rw [default_entry_eq_none_iff, filter_dispatchRows_none]
  simp only [List.exists_mem_cons_iff, List.not_mem_nil, false_and, exists_false, or_false]

/-! ### Unknown commands (R110, R282) -/

/-- An unknown rendering command changes nothing (R110). -/
theorem exec_of_isUnknown {i : Instr} (h : i.isUnknown = true) (s : State) : exec i s = .next s := by
  obtain ⟨id, hi⟩ := exists_isUnknownId h
  exact exec_of_unknownInstr hi.lookup s

/-- What an unknown control command with the fields `m`, `c`, `p` is: its word is theirs, and it only records them (R282). -/
structure IsUnknownControlId (m : BitVec 2) (c : BitVec 6) (p : BitVec 24) (i : Instr) : Prop where
  encode : ∀ cfg : Config, Sys2Proof.encode cfg i = [encControl m c p]
  exec : ∀ s : State, Machine.exec i s = .next (s.recordControl m c p)

/-- Every unknown control command is that of its own fields. -/
theorem exists_isUnknownControlId {i : Instr} (h : i.isUnknownControl = true) : ∃ m c p, IsUnknownControlId m c p i := by
  cases i
  all_goals first
    | exact absurd h Bool.false_ne_true
    | exact ⟨_, _, _, fun _ => rfl, fun _ => rfl⟩

/-- Recording the fields of a control word is recording the word (R45, R270). -/
theorem recordControl_eq_recorded (s : State) (m : BitVec 2) (c : BitVec 6) (p : BitVec 24) :
    s.recordControl m c p = s.recorded (encControl m c p) := by
  have hc : (cmdId (encControl m c p)).extractLsb' 0 6 = c := by rw [cmdId_encControl, extractLsb'_append_low]
  simpa only [mirror_encControl, colour24_encControl] using recordControl_eq (s := s) hc

/-- Settles O47, channel by channel. -/
theorem unknownCommandsAreSilent : Obligations.UnknownCommandsAreSilent := by
  refine ⟨fun i s h => exec_of_isUnknown h s, fun i s w h hw => ?_⟩
  obtain ⟨m, c, p, hi⟩ := exists_isUnknownControlId h
  rw [hi.encode, List.singleton_inj] at hw
  rw [hi.exec, recordControl_eq_recorded, hw]

/-! ### Control words (R111, R271) -/

/-- The id, without its mirror bits, of the command that row `k` of the control map makes from bits 27:24 of a word. -/
def controlRowId (k : Nat) (band : BitVec 4) : BitVec 6 := if 0x10 ≤ k ∧ k ≤ 0x1F then 0b01#2 ++ band else BitVec.ofNat 6 k

/-- The encoder gives the command of a row the id of the row (R111). -/
theorem encode_controlRow (cfg : Config) : ∀ r ∈ controlRows.zipIdx, ∀ m band p,
    encode cfg (r.1 m band p) = [encControl m (controlRowId r.2 band) p] := by
  simp only [controlRows, controlRowsLow, controlRowsHigh, List.cons_append, List.nil_append, List.zipIdx_cons, List.zipIdx_nil,
    List.forall_mem_cons, List.not_mem_nil, false_implies, implies_true, and_true]
  repeat' apply And.intro
  all_goals (intros; rfl)

/-- The row of a canonical id and bits 27:24 of the word determine the low six bits of the id (R271). -/
theorem controlRowId_canonical : ∀ c : BitVec 6, controlRowId (canonical (0#2 ++ c)).toNat (c.extractLsb' 0 4) = c := by
  decide

/-- A control word is made of its mirror bits, its id without them, and its operand (R111). -/
theorem encControl_fields (w : Word) : encControl (w.extractLsb' 30 2) (w.extractLsb' 24 6) (colour24 w) = w := by
  have hid : w.extractLsb' 30 2 ++ w.extractLsb' 24 6 = cmdId w := BitVec.extractLsb'_append_extractLsb'_eq_extractLsb' rfl
  rw [encControl, hid, cmdId_append_colour24]

/-- Encoding undoes the decoding of a control word (R111). -/
theorem encode_decodeGP1 (cfg : Config) (w : Word) : encode cfg (decodeGP1 w) = [w] := by
  rw [← encControl_fields w, decodeGP1_encControl,
    encode_controlRow cfg _ (List.mk_mem_zipIdx_iff_getElem?.2 (List.getElem?_eq_getElem _)), controlRowId_canonical]

/-- Settles O5. -/
theorem controlWordsEncodeBack : Obligations.ControlWordsEncodeBack := fun c w => ⟨encode_decodeGP1 c w, channel_decodeGP1 w⟩

/-! ### Words written out (R101, R102, R111) -/

/-- A command whose first word has an id of a row of R108 is read by the handler of that row (R102, R113). -/
theorem decodeGP0_of_row {lo hi : Nat} {e : DispatchEntry} {stream ws rest : List Word} {t : Bool} {i : Instr}
    (hr : ⟨lo, hi, some e⟩ ∈ dispatchRows)
    (hid : lo ≤ (cmdId (stream.headD 0)).toNat ∧ (cmdId (stream.headD 0)).toNat ≤ hi)
    (hf : frame e.length 0 stream = some (ws, t, rest)) (hw : e.handler.words ≤ ws.length)
    (hasm : assemble e.handler t ws = i) : decodeGP0 Config.default stream = .ok (i, rest) :=
  hasm ▸ decodeGP0_of_frame (default_entry_of_row hr _ hid.1 hid.2) hf hw

/-- Settles O7: the row of each first word, then the fields of the words. -/
theorem writtenOutWordsDecode : Obligations.WrittenOutWordsDecode := by
  refine ⟨?polyF3, ?plineF, ?fill, ?texpage, ?unknown, ?dispmode, ?gpuinfo⟩
  case polyF3 =>
    exact decodeGP0_of_row (lo := 0x20) (hi := 0x23) (e := ⟨.fixed 4, .polyF3⟩) (by decide) (by decide) rfl (by decide) rfl
  case plineF =>
    exact decodeGP0_of_row (lo := 0x48) (hi := 0x4F) (e := ⟨.varF, .plineF⟩) (by decide) (by decide) rfl (by decide) rfl
  case fill =>
    exact decodeGP0_of_row (lo := 0x02) (hi := 0x02) (e := ⟨.fixed 3, .fill⟩) (by decide) (by decide) rfl (by decide) rfl
  case texpage =>
    exact decodeGP0_of_row (lo := 0xE1) (hi := 0xE1) (e := ⟨.fixed 1, .texpage⟩) (by decide) (by decide) rfl (by decide) rfl
  case unknown =>
    exact decodeGP0_unknown (default_entry_of_row (lo := 0x00) (hi := 0x01) (by decide) _ (by decide) (by decide)) rfl
  case dispmode => exact decodeGP1_encControl 1 0x08 9
  case gpuinfo => exact decodeGP1_encControl 0 0x17 2

end Sys2Proof.Machine

/-! ## Proofs of the statements of spec/40_field_readers.md

The vertex coordinates, the 15-bit colour, and the terminator. -/

namespace Sys2Proof.Machine

/-! ### Vertex coordinates (R10, R132) -/

/-- Two's complement of 11 bits: bit 10 has the weight -1024, so setting it takes 2048 off the number (R10). -/
theorem sext11_eq (f : BitVec 11) : sext11 f = if f.getLsbD 10 then (f.toNat : Int) - 2048 else f.toNat := by
  rw [sext11, BitVec.toInt_eq_msb_cond, BitVec.msb_eq_getLsbD_last]
  rfl

/-- A window of 11 bits in two's complement: its top bit is the sign, its number is taken from the word (R132). -/
theorem sext11_extractLsb' (w : Word) (lo : Nat) : sext11 (w.extractLsb' lo 11) =
    if w.getLsbD (lo + 10) then ((w.toNat / 2 ^ lo % 2048 : Nat) : Int) - 2048 else ((w.toNat / 2 ^ lo % 2048 : Nat) : Int) := by
  rw [sext11_eq, toNat_extractLsb', BitVec.getLsbD_extractLsb']
  rfl

theorem vtxX_eq (w : Word) : vtxX w =
    if w.getLsbD 10 then ((w.toNat % 2048 : Nat) : Int) - 2048 else ((w.toNat % 2048 : Nat) : Int) := by
  have h := sext11_extractLsb' w 0
  rwa [Nat.pow_zero, Nat.div_one] at h

/-- Settles O9: the two windows of the word, and the range of their two's complement. -/
theorem vertexCoordinatesSignExtend : Obligations.VertexCoordinatesSignExtend := by
  intro w
  obtain ⟨hx1, hx2, -⟩ := sext11_spec (vtxOf w).x
  obtain ⟨hy1, hy2, -⟩ := sext11_spec (vtxOf w).y
  exact ⟨vtxX_eq w, sext11_extractLsb' w 16, hx1, hx2, hy1, hy2⟩

/-! ### The 15-bit colour (R136, R143) -/

/-- Five bits of a colour moved down to their place in a half-word: its bits there are those of the window, the others zero. -/
theorem getLsbD_colourField (c : Colour) (place down k : Nat) (hplace : place + 5 ≤ 16) :
    ((c.extractLsb' (place + down) 5).setWidth 16 <<< place).getLsbD k =
      (decide (place ≤ k ∧ k < place + 5) && c.getLsbD (k + down)) := by
  rw [BitVec.getLsbD_shiftLeft, BitVec.getLsbD_setWidth, BitVec.getLsbD_extractLsb']
  have hplaces : k < place ∨ (place ≤ k ∧ k < place + 5) ∨ place + 5 ≤ k := by omega
  obtain below | within | above := hplaces
  · simp [below, show ¬place ≤ k by omega]
  · simp [within, show k < 16 by omega, show k - place < 16 by omega, show k - place < 5 by omega,
      show place + down + (k - place) = k + down by omega]
  · simp [show ¬k - place < 5 by omega, show ¬k < place + 5 by omega]

/-- A bit of `To15` is a bit of red, of green or of blue, in their places of five bits (R136). -/
theorem getLsbD_to15 (c : Colour) (k : Nat) : (to15 c).getLsbD k =
    ((decide (0 ≤ k ∧ k < 5) && c.getLsbD (k + 3)) || (decide (5 ≤ k ∧ k < 10) && c.getLsbD (k + 6)) ||
      (decide (10 ≤ k ∧ k < 15) && c.getLsbD (k + 9))) := by
  rw [to15, BitVec.getLsbD_or, BitVec.getLsbD_or, ← getLsbD_colourField c 0 3 k (by decide),
    ← getLsbD_colourField c 5 6 k (by decide), ← getLsbD_colourField c 10 9 k (by decide), BitVec.shiftLeft_zero]

/-- Settles O10, by the place that the bit lies in. -/
theorem colourNarrowingTruncates : Obligations.ColourNarrowingTruncates := by
  intro c k
  rw [getLsbD_to15]
  split_ifs with hred hgreen hblue
  · simp [hred, show ¬5 ≤ k by omega, show ¬10 ≤ k by omega]
  · simp [hred, hgreen, show 5 ≤ k by omega, show ¬10 ≤ k by omega]
  · simp [hred, hgreen, hblue, show 10 ≤ k by omega]
  · simp [hred, hgreen, hblue]

/-! ### The terminator (R140) -/

/-- Settles O11: the mask test compares the windows of the word with those of the word of R140. -/
theorem terminatorTestsTwoNibbles : Obligations.TerminatorTestsTwoNibbles := fun w => calc
  isTerm w = true ↔ w &&& (windowMask 28 4 ||| windowMask 12 4) = 0x50005000#32 &&& (windowMask 28 4 ||| windowMask 12 4) :=
    beq_iff_eq
  _ ↔ w.extractLsb' 28 4 = 5#4 ∧ w.extractLsb' 12 4 = 5#4 := (extractLsb'_pair_eq_iff w 0x50005000#32 28 4 12 4).symm

end Sys2Proof.Machine

/-! ## Proofs of the statements of spec/41_polygon.md

The words of a command under a table entry that may be longer; the records of polygon words; the texture-page write-back. -/

namespace Sys2Proof.Machine

/-! ### Commands under a longer entry (R102, R113) -/

/-- The words a handler reads are decoded together with those that a longer entry takes besides (log 3). -/
theorem decodeGP0_longer_entry {c : Config} {h : Handler} {w : Word} {ws extra : List Word}
    (hw : h.words = (w :: ws).length) (he : c.entry (cmdId w) = some ⟨.fixed ((w :: ws).length + extra.length), h⟩) :
    decodeGP0 c (w :: ws ++ extra) = .ok (assemble h false (w :: ws ++ extra), []) :=
  decodeGP0_fixed_self he (hw ▸ Nat.le_add_right ..) (List.length_append (as := w :: ws))

/-! ### The records of polygon words (R109, R150) -/

/-- The record of an untextured polygon reads `semi` and `raw` from bits 25 and 24 of its first word, and the vertices from theirs. -/
theorem plainPoly_of_words (w0 : Word) (shaded : Bool) (vs : List Word) (cs : List Colour) :
    plainPoly (idHigh w0 ++ idLow w0) shaded (vs.map vtxOf) cs =
      { id := cmdId w0, nverts := vs.length, shaded := shaded, textured := false, semi := w0.getLsbD 25, raw := w0.getLsbD 24
        v := vs.map vertexOf, c := cs, texture := none } := by
  rw [plainPoly, idHigh_append_idLow, cmdId_bit1, cmdId_bit0, List.map_map, List.length_map]
  rfl

/-- A textured polygon's record is that of the untextured one with the texture added. -/
theorem texturedPoly_eq (id : BitVec 8) (shaded : Bool) (vs : List Vtx) (cs : List Colour) (uv : List Uv) (clut tpage : BitVec 16) :
    texturedPoly id shaded vs cs uv clut tpage =
      { plainPoly id shaded vs cs with textured := true, texture := some ⟨uv, clut, tpage⟩ } := rfl

/-- The record of a textured polygon reads `semi`, `raw` and the vertices as that of an untextured one does. -/
theorem texturedPoly_of_words (w0 : Word) (shaded : Bool) (vs : List Word) (cs : List Colour) (uv : List Uv)
    (clut tpage : BitVec 16) :
    texturedPoly (idHigh w0 ++ idLow w0) shaded (vs.map vtxOf) cs uv clut tpage =
      { id := cmdId w0, nverts := vs.length, shaded := shaded, textured := true, semi := w0.getLsbD 25, raw := w0.getLsbD 24
        v := vs.map vertexOf, c := cs, texture := some ⟨uv, clut, tpage⟩ } := by
  rw [texturedPoly_eq, plainPoly_of_words]

/-- A polygon command that emits one of two equal records emits the other, and changes nothing else (R13, R160). -/
theorem next_emit_poly (s : State) {r r' : PolyRec} (h : r = r') :
    (.next (s.emit (.poly r)) : Result) = .next (s.emitted (.poly r')) := h ▸ rfl

/-! ### The texture-page write-back (R159) -/

/-- Settles O25, by what the parameter selects and what the write does to each bit of the status register. -/
theorem texpageWritebackFollowsParameter : Obligations.TexpageWritebackFollowsParameter := by
  refine fun s p => ⟨fun hoff => if_neg (Bool.eq_false_iff.1 hoff), fun hon => ?_⟩
  have hwrite : s.texpageWriteback p = s.withCsr (csrPolyTexpage s.csr p s.texdisAllow) := if_pos hon
  rw [hwrite]
  exact ⟨rfl, fun b hb => getLsbD_csrPolyTexpage s.csr p s.texdisAllow hb⟩

/-! ### The polygon commands (R151 to R158) -/

/-- Settles O21, for the triangle and the quad. -/
theorem flatPolygonsEmit : Obligations.FlatPolygonsEmit := by
  intro s extra w0 w1 w2 w3 w4
  refine ⟨⟨decodeGP0_longer_entry (ws := [w1, w2, w3]) rfl, ?triangle⟩,
    decodeGP0_longer_entry (ws := [w1, w2, w3, w4]) rfl, ?quad⟩
  case triangle => exact next_emit_poly s (plainPoly_of_words w0 false [w1, w2, w3] _)
  case quad => exact next_emit_poly s (plainPoly_of_words w0 false [w1, w2, w3, w4] _)

/-- Settles O22, for the triangle and the quad; the texture page is that of word 4. -/
theorem flatTexturedPolygonsEmit : Obligations.FlatTexturedPolygonsEmit := by
  intro s extra w0 w1 w2 w3 w4 w5 w6 w7 w8
  refine ⟨⟨decodeGP0_longer_entry (ws := [w1, w2, w3, w4, w5, w6]) rfl, ?triangle⟩,
    decodeGP0_longer_entry (ws := [w1, w2, w3, w4, w5, w6, w7, w8]) rfl, ?quad⟩
  case triangle =>
    exact next_emit_poly (s.texpageWriteback (highHalf w4)) (texturedPoly_of_words w0 false [w1, w3, w5] _ _ _ _)
  case quad =>
    exact next_emit_poly (s.texpageWriteback (highHalf w4)) (texturedPoly_of_words w0 false [w1, w3, w5, w7] _ _ _ _)

/-- Settles O23, for the triangle and the quad; the words after the first are pairs of a vertex and the next colour. -/
theorem shadedPolygonsEmit : Obligations.ShadedPolygonsEmit := by
  intro s extra w0 w1 w2 w3 w4 w5 w6 w7
  refine ⟨⟨decodeGP0_longer_entry (ws := [w1, w2, w3, w4, w5]) rfl, ?triangle⟩,
    decodeGP0_longer_entry (ws := [w1, w2, w3, w4, w5, w6, w7]) rfl, ?quad⟩
  case triangle => exact next_emit_poly s (plainPoly_of_words w0 true [w1, w3, w5] _)
  case quad => exact next_emit_poly s (plainPoly_of_words w0 true [w1, w3, w5, w7] _)

/-- Settles O24, for the triangle and the quad; the texture page is that of word 5. -/
theorem shadedTexturedPolygonsEmit : Obligations.ShadedTexturedPolygonsEmit := by
  intro s extra w0 w1 w2 w3 w4 w5 w6 w7 w8 w9 w10 w11
  refine ⟨⟨decodeGP0_longer_entry (ws := [w1, w2, w3, w4, w5, w6, w7, w8]) rfl, ?triangle⟩,
    decodeGP0_longer_entry (ws := [w1, w2, w3, w4, w5, w6, w7, w8, w9, w10, w11]) rfl, ?quad⟩
  case triangle =>
    exact next_emit_poly (s.texpageWriteback (highHalf w5)) (texturedPoly_of_words w0 true [w1, w4, w7] _ _ _ _)
  case quad =>
    exact next_emit_poly (s.texpageWriteback (highHalf w5)) (texturedPoly_of_words w0 true [w1, w4, w7, w10] _ _ _ _)

end Sys2Proof.Machine

/-! ## Proofs of the statements of spec/42_line.md

The records of line words; then the words that only their length class ends, and the two poly-lines it cuts. -/

namespace Sys2Proof.Machine

/-! ### The records of line words (R170) -/

/-- The record of a line reads `semi` from bit 25 of its first word, and each vertex and its colour from a pair of words, the colour
first. -/
theorem lineRec_of_words (w0 : Word) (shaded : Bool) (cvs : List (Word × Word)) (terminated : Option Bool) :
    lineRec (lineId (idHigh w0) (w0.getLsbD 25) (w0.getLsbD 24)) shaded (cvs.map fun cv => (colour24 cv.1, vtxOf cv.2)) terminated =
      { id := cmdId w0, shaded := shaded, poly := terminated.isSome, semi := w0.getLsbD 25, n := cvs.length
        v := cvs.map fun cv => vertexOf cv.2, c := cvs.map fun cv => colour24 cv.1, terminated := terminated } := by
  rw [lineRec, lineId_eq_cmdId, cmdId_bit1, List.map_map, List.map_map, List.length_map]
  rfl

/-- A line command that emits one of two equal records emits the other, and changes nothing else (R13, R160). -/
theorem next_emit_line (s : State) {r r' : LineRec} (h : r = r') :
    (.next (s.emit (.line r)) : Result) = .next (s.emitted (.line r')) := h ▸ rfl

/-! ### The fixed lines (R171, R172) -/

/-- Settles O26, for the mono and the shaded line; both vertices of the mono line take their colour from word 0. -/
theorem fixedLinesEmit : Obligations.FixedLinesEmit := by
  intro s extra w0 w1 w2 w3
  refine ⟨⟨decodeGP0_longer_entry (ws := [w1, w2]) rfl, ?mono⟩, decodeGP0_longer_entry (ws := [w1, w2, w3]) rfl, ?shaded⟩
  case mono => exact next_emit_line s (lineRec_of_words w0 false [(w0, w1), (w0, w2)] none)
  case shaded => exact next_emit_line s (lineRec_of_words w0 true [(w0, w1), (w2, w3)] none)

/-! ### The poly-lines (R173, R174) -/

/-- `PLINE_F` on the vertex words `vs` emits their vertices, all in the colour of word 0 (R173). -/
theorem exec_plineF_of_words (s : State) (w0 : Word) (vs : List Word) (terminated : Bool) :
    exec (.plineF (idHigh w0) (w0.getLsbD 25) (w0.getLsbD 24) (colour24 w0) (vs.map vtxOf) terminated) s =
      .next (s.emitted (.line {
        id := cmdId w0, shaded := false, poly := true, semi := w0.getLsbD 25, n := vs.length
        v := vs.map vertexOf, c := List.replicate vs.length (colour24 w0), terminated := some terminated })) := by
  have h := lineRec_of_words w0 false (vs.map fun v => (w0, v)) (some terminated)
  simp only [List.map_map, List.length_map, Function.comp_def, List.map_const'] at h
  refine next_emit_line s (Eq.trans ?_ h)
  rw [List.map_map]
  rfl

/-- The vertices of a mono poly-line are read from all its words but the first, and but the terminator if it has one (R173). -/
theorem assemble_plineF (terminated : Bool) (w0 : Word) (ws : List Word) :
    assemble .plineF terminated (w0 :: ws) = .plineF (idHigh w0) (w0.getLsbD 25) (w0.getLsbD 24) (colour24 w0)
      ((ws.take (if terminated then (w0 :: ws).length - 2 else (w0 :: ws).length - 1)).map vtxOf) terminated := by
  cases terminated with
  | true => simp [assemble, List.dropLast_eq_take]
  | false => simp [assemble]

/-- The first words of a list, by their indices. -/
theorem map_take_eq_map_range {α : Type} (f : Word → α) {ws : List Word} {n : Nat} (hn : n ≤ ws.length) :
    (ws.take n).map f = (List.range n).map fun k => f (ws.getD k 0) := by
  refine List.ext_getElem (by simpa using hn) fun k hk _ => ?_
  have hlt : k < ws.length := (by simpa using hk : k < n ∧ k < ws.length).2
  simp [hlt]

/-- Settles O27: the words that `assemble` takes are those at the indices from 1 to `nv`. -/
theorem monoPolylineEmits : Obligations.MonoPolylineEmits := by
  intro s terminated w0 ws nv i
  have hnv : nv ≤ ws.length := by
    simp only [nv, List.length_cons]
    split <;> omega
  refine ⟨assemble_plineF terminated w0 ws, ?_⟩
  have h := exec_plineF_of_words s w0 (ws.take nv) terminated
  rw [List.length_take_of_le hnv, map_take_eq_map_range vertexOf hnv] at h
  simpa only [Nat.add_comm 1, List.getD_cons_succ] using h

/-- The pairs of a shaded poly-line are read from its words up to the last but one: none of them has a word more (R174). -/
theorem colourVertexPairs_dropLast (ws : List Word) : colourVertexPairs ws.dropLast =
    (List.range ((ws.length - 1) / 2)).map fun k => (colour24 (ws.getD (2 * k) 0), vtxOf (ws.getD (2 * k + 1) 0)) := by
  have hword : ∀ k < ws.length - 1, ws.dropLast.getD k 0 = ws.getD k 0 := fun k hk => by
    rw [List.getD_eq_getElem?_getD, List.getElem?_dropLast, if_pos hk, List.getD_eq_getElem?_getD]
  rw [colourVertexPairs_eq, List.length_dropLast]
  refine List.map_congr_left fun k hk => ?_
  have hk : k < (ws.length - 1) / 2 := List.mem_range.1 hk
  rw [hword _ (by omega), hword _ (by omega)]

/-- Settles O28, from the pairs of words that `assemble` takes. -/
theorem shadedPolylineEmits : Obligations.ShadedPolylineEmits := by
  intro s terminated w0 ws nv i
  refine ⟨congrArg (Instr.plineG _ _ _ · terminated) (colourVertexPairs_dropLast (w0 :: ws)), ?_⟩
  have h := lineRec_of_words w0 true
    ((List.range nv).map fun k => ((w0 :: ws).getD (2 * k) 0, (w0 :: ws).getD (2 * k + 1) 0)) (some terminated)
  simp only [List.map_map, List.length_map, List.length_range, Function.comp_def] at h
  exact next_emit_line s h

/-! ### Feeding words of which only the last completes (R243, R244, R248) -/

/-- The last of the words completes a command of length class `l`, with `terminated = t`, and no other does. -/
def CompletesAtEnd (l : LengthClass) (ws : List Word) (t : Bool) : Prop :=
  ∀ k < ws.length, checkComplete l k (ws.getD k 0) = if k + 1 = ws.length then some t else none

theorem CompletesAtEnd.of_lt {l : LengthClass} {ws : List Word} {t : Bool} (h : CompletesAtEnd l ws t) {k : Nat}
    (hk : k + 1 < ws.length) : checkComplete l k (ws.getD k 0) = none := by
  rw [h k (by omega), if_neg (by omega)]

/-- Such words are one command. -/
theorem CompletesAtEnd.frame {l : LengthClass} {ws : List Word} {t : Bool} (h : CompletesAtEnd l ws t) (hne : ws ≠ []) :
    frame l 0 ws = some (ws, t, []) := by
  have hlen := List.length_pos_of_ne_nil hne
  have hlast : checkComplete l ws.dropLast.length (ws.getLast hne) = some t := by
    have := h (ws.length - 1) (by omega)
    rwa [if_pos (by omega), List.getD_eq_getElem _ _ (by omega), ← List.getLast_eq_getElem hne, ← List.length_dropLast] at this
  have hinit : ∀ k (hk : k < ws.dropLast.length), checkComplete l k ws.dropLast[k] = none := fun k hk => by
    have hk' : k + 1 < ws.length := by rw [List.length_dropLast] at hk; omega
    rw [List.getElem_dropLast, ← List.getD_eq_getElem ws 0 (by omega)]
    exact h.of_lt hk'
  simpa [List.dropLast_append_getLast hne] using frame_of_complete_last (rest := []) hinit hlast

/-- From Idle, all such words but the last are only buffered (R243, R244). -/
theorem CompletesAtEnd.portSteps_take {s : State} {e : DispatchEntry} {ws : List Word} {t : Bool}
    (h : CompletesAtEnd e.length ws t) (hm : s.wmode = .framing) (hc : s.cmdbuf = [])
    (he : s.cfg.entry (cmdId (ws.headD 0)) = some e) (hmax : 0 < e.length.max) {n : Nat} (hn : n < ws.length) :
    portSteps (feedGP0 (ws.take n)) s = .next { s with cmdbuf := ws.take n } := by
  have hhead : ws.take n ≠ [] → s.cfg.entry (cmdId ((s.cmdbuf ++ ws.take n).headD 0)) = some e := fun hne => by
    have hn0 : n ≠ 0 := fun h0 => hne (h0 ▸ List.take_zero)
    rwa [hc, List.nil_append, List.headD_eq_head?_getD, List.head?_take, if_neg hn0, ← List.headD_eq_head?_getD]
  have hnone : ∀ k (hk : k < (ws.take n).length), checkComplete e.length (s.bufcnt + k) (ws.take n)[k] = none := fun k hk => by
    have hk' : k < n := (List.length_take_of_le hn.le) ▸ hk
    rw [State.bufcnt, hc, List.length_nil, Nat.zero_add, List.getElem_take, ← List.getD_eq_getElem ws 0 (by omega)]
    exact h.of_lt (by omega)
  rw [portSteps_feed_prefix hm hhead (by rw [State.bufcnt, hc]; exact hmax) hnone, hc, List.nil_append]

/-- From Idle, frames not skipped, the last of them runs the command that they assemble to (R248, R249). -/
theorem CompletesAtEnd.portSteps_eq {s : State} {e : DispatchEntry} {ws : List Word} {t : Bool}
    (h : CompletesAtEnd e.length ws t) (hm : s.wmode = .framing) (hc : s.cmdbuf = []) (hskip : s.frameskip = false)
    (he : s.cfg.entry (cmdId (ws.headD 0)) = some e) (hmax : 0 < e.length.max) (hne : ws ≠ [])
    (hwords : e.handler.words ≤ ws.length) :
    portSteps (feedGP0 ws) s = endDispatch (exec (assemble e.handler t ws) s) := by
  have hcnt : s.bufcnt = 0 := by rw [State.bufcnt, hc, List.length_nil]
  rw [portSteps_feed_frame hm (by rwa [hc]) (hcnt ▸ hmax) (hcnt ▸ h.frame hne), hc, List.nil_append,
    dispatchBuffer_of_le (by simp only [hskip, Bool.false_and]) hwords,
    endDispatch_exec_withCmdbuf (channel_assemble ..)]

/-! ### Poly-lines with no terminator (R175, R247) -/

/-- With no word that ends it, a mono poly-line completes at its maximum length (R245, R247). -/
theorem completesAtEnd_varF {ws : List Word} (hlen : ws.length = 254) (ht : ∀ k < 254, termF k (ws.getD k 0) = false) :
    CompletesAtEnd .varF ws false := by
  intro k hk
  rw [hlen] at hk ⊢
  simp only [checkComplete, ht k hk, Bool.false_eq_true, if_false]

/-- With no word that ends it, a shaded poly-line completes at its maximum length (R246, R247). -/
theorem completesAtEnd_varG {ws : List Word} (hlen : ws.length = 255) (ht : ∀ k < 255, termG k (ws.getD k 0) = false) :
    CompletesAtEnd .varG ws false := by
  intro k hk
  rw [hlen] at hk ⊢
  simp only [checkComplete, ht k hk, Bool.false_eq_true, if_false]

/-- Settles O15: word 253 is the first to complete the command, by the maximum length, and all words but the first are vertices. -/
theorem monoPolylineForcedEnd : Obligations.MonoPolylineForcedEnd := by
  intro s w0 ws hm hc hskip he hlen hterm
  have hnone : ∀ k < 254, termF k ((w0 :: ws).getD k 0) = false
    | 0, _ => rfl
    | k + 1, hk => by
      by_cases htested : 2 ≤ k
      · rw [List.getD_cons_succ, termF, hterm k htested (by omega), Bool.and_false]
      · rw [termF, decide_eq_false (by omega), Bool.false_and]
  have hend := completesAtEnd_varF (ws := w0 :: ws) (by rw [List.length_cons, hlen]) hnone
  refine ⟨fun n hn => ?buffered, ?emitted⟩
  case buffered =>
    exact hend.portSteps_take (e := ⟨.varF, .plineF⟩) hm hc he (by decide) (n := n + 1) (by rw [List.length_cons]; omega)
  case emitted =>
    have hall : ws.take ((w0 :: ws).length - 1) = ws := List.take_length
    rw [hend.portSteps_eq (e := ⟨.varF, .plineF⟩) hm hc hskip he (by decide) (List.cons_ne_nil w0 ws) (Nat.le_add_left ..),
      assemble_plineF, if_neg Bool.false_ne_true, hall, exec_plineF_of_words, hlen]
    rfl

/-- Settles O16: word 254 is the first to complete the command, by the maximum length, and as a colour slot it is in no pair. -/
theorem shadedPolylineForcedEnd : Obligations.ShadedPolylineForcedEnd := by
  intro s w0 ws hm hc hskip he hlen hterm
  have hnone : ∀ k < 255, termG k ((w0 :: ws).getD k 0) = false
    | 0, _ => rfl
    | k + 1, hk => by
      by_cases htested : 3 ≤ k ∧ k % 2 = 1
      · rw [List.getD_cons_succ, termG, hterm k htested.1 (by omega) htested.2, Bool.and_false]
      · have huntested : (decide (4 ≤ k + 1) && (k + 1) % 2 == 0) = false := by
          rw [Bool.and_eq_false_iff, decide_eq_false_iff_not, beq_eq_false_iff_ne]
          omega
        rw [termG, huntested, Bool.false_and]
  have hend := completesAtEnd_varG (ws := w0 :: ws) (by rw [List.length_cons, hlen]) hnone
  refine ⟨fun n hn => ?buffered, ?emitted⟩
  case buffered =>
    exact hend.portSteps_take (e := ⟨.varG, .plineG⟩) hm hc he (by decide) (n := n + 1) (by rw [List.length_cons]; omega)
  case emitted =>
    obtain ⟨hassemble, hexec⟩ := shadedPolylineEmits s false w0 ws
    rw [hend.portSteps_eq (e := ⟨.varG, .plineG⟩) hm hc hskip he (by decide) (List.cons_ne_nil w0 ws) (Nat.le_add_left ..),
      hassemble, hexec, List.length_cons, hlen]
    rfl

end Sys2Proof.Machine

/-! ## Proofs of the statements of spec/43_tile_sprite.md

What tile and sprite words emit, at any size; then the eight commands, which differ in their handler, size and size class only. -/

namespace Sys2Proof.Machine

/-! ### The rectangles of tile and sprite words (R180) -/

/-- A sprite's record is that of the tile with the texture coordinates and the CLUT added. -/
theorem spriteRec_eq (id : BitVec 8) (sizeclass : BitVec 2) (c : Colour) (pos : Vtx) (uv : Uv) (clut : BitVec 16) (w h : Nat) :
    spriteRec id sizeclass c pos uv clut w h =
      { tileRec id sizeclass c pos w h with textured := true, uv := some uv, clut := some clut } := rfl

/-- The record of a tile reads `semi` and `raw` from bits 25 and 24 of its first word, and the position from its second. -/
theorem tileRec_of_words (w0 w1 : Word) (sizeclass : BitVec 2) (w h : Nat) :
    tileRec (idHigh w0 ++ idLow w0) sizeclass (colour24 w0) (vtxOf w1) w h =
      { id := cmdId w0, textured := false, semi := w0.getLsbD 25, raw := w0.getLsbD 24, sizeclass := sizeclass
        c := colour24 w0, pos := vertexOf w1, w := w, h := h, uv := none, clut := none } := by
  rw [tileRec, idHigh_append_idLow, cmdId_bit1, cmdId_bit0]
  rfl

/-- A command that emits a tile's record appends the rectangle of its words, and changes nothing else (R13, R160). -/
theorem next_emit_tile (s : State) (w0 w1 : Word) (sizeclass : BitVec 2) (w h : Nat) :
    (.next (s.emit (.rect (tileRec (idHigh w0 ++ idLow w0) sizeclass (colour24 w0) (vtxOf w1) w h))) : Result) =
      .next (s.emitted (.rect {
        id := cmdId w0, textured := false, semi := w0.getLsbD 25, raw := w0.getLsbD 24, sizeclass := sizeclass
        c := colour24 w0, pos := vertexOf w1, w := w, h := h, uv := none, clut := none })) := by
  rw [tileRec_of_words]
  rfl

/-- A command that emits a sprite's record appends the rectangle of its words, the texture coordinates and the CLUT those of word 2, and
changes nothing else (R13, R160). -/
theorem next_emit_sprite (s : State) (w0 w1 w2 : Word) (sizeclass : BitVec 2) (w h : Nat) :
    (.next (s.emit (.rect (spriteRec (idHigh w0 ++ idLow w0) sizeclass (colour24 w0) (vtxOf w1) (uvOf w2) (highHalf w2) w h))) : Result) =
      .next (s.emitted (.rect {
        id := cmdId w0, textured := true, semi := w0.getLsbD 25, raw := w0.getLsbD 24, sizeclass := sizeclass
        c := colour24 w0, pos := vertexOf w1, w := w, h := h, uv := some (uvOf w2), clut := some (highHalf w2) })) := by
  rw [spriteRec_eq, tileRec_of_words]
  rfl

/-! ### The sizes of a size word (R135, R189) -/

/-- The size fields of a word, as numbers: no zero is turned into a maximum. -/
theorem toNat_sizeFieldsOf (w : Word) :
    (sizeFieldsOf w).w.toNat = w.toNat % 1024 ∧ (sizeFieldsOf w).h.toNat = w.toNat / 65536 % 512 := by
  obtain ⟨-, -, -, hw, hh, -⟩ := readersUseExactlyTheirBits.1 w
  exact ⟨hw, hh⟩

/-! ### The tile and sprite commands (R181 to R188) -/

/-- Settles O29, for the tile and the sprite; the size word is the last of those the handler reads. -/
theorem customSizeRectanglesEmit : Obligations.CustomSizeRectanglesEmit := by
  intro s extra w0 w1 w2 w3
  obtain ⟨hw2, hh2⟩ := toNat_sizeFieldsOf w2
  obtain ⟨hw3, hh3⟩ := toNat_sizeFieldsOf w3
  rw [← hw2, ← hh2, ← hw3, ← hh3]
  refine ⟨⟨decodeGP0_longer_entry (ws := [w1, w2]) rfl, ?tile⟩, decodeGP0_longer_entry (ws := [w1, w2, w3]) rfl, ?sprite⟩
  case tile => exact next_emit_tile s w0 w1 0 _ _
  case sprite => exact next_emit_sprite s w0 w1 w2 0 _ _

/-- Settles O30: the tiles of the three sizes, then the sprites. -/
theorem fixedSizeRectanglesEmit : Obligations.FixedSizeRectanglesEmit := by
  intro s extra w0 w1 w2 id ih il tile sprite tiled sprited
  refine ⟨?tile1, ?tile8, ?tile16, ?sprt1, ?sprt8, ?sprt16⟩
  case tile1 => exact ⟨decodeGP0_longer_entry (ws := [w1]) rfl, next_emit_tile s w0 w1 1 1 1⟩
  case tile8 => exact ⟨decodeGP0_longer_entry (ws := [w1]) rfl, next_emit_tile s w0 w1 2 8 8⟩
  case tile16 => exact ⟨decodeGP0_longer_entry (ws := [w1]) rfl, next_emit_tile s w0 w1 3 16 16⟩
  case sprt1 => exact ⟨decodeGP0_longer_entry (ws := [w1, w2]) rfl, next_emit_sprite s w0 w1 w2 1 1 1⟩
  case sprt8 => exact ⟨decodeGP0_longer_entry (ws := [w1, w2]) rfl, next_emit_sprite s w0 w1 w2 2 8 8⟩
  case sprt16 => exact ⟨decodeGP0_longer_entry (ws := [w1, w2]) rfl, next_emit_sprite s w0 w1 w2 3 16 16⟩

end Sys2Proof.Machine

/-! ## Proofs of the statements of spec/44_image_transfer.md

What `ClearFifo` leaves, with the status mask written out; then what a control word records, from its canonical id; then
`C_CLEARFIFO`. -/

namespace Sys2Proof.Machine

/-! ### Dropping what is pending (R208, R270, R273) -/

/-- `ClearFifo` empties the buffer, closes both transfers and clears bit 27 of the status, and leaves every other field (R273). -/
theorem State.clearFifo_eq (s : State) : s.clearFifo =
    { s with cmdbuf := [], wmode := .framing, rmode := .normal, csr := s.csr &&& ~~~0x08000000 } := by
  rw [State.clearFifo, csrVrdy_false]
  rfl

/-- A command that records the canonical id of its control word, outside the GPU-info band, records that word (R45, R270). -/
theorem recordControl_of_canonical (s : State) {w : Word} {k : BitVec 8} (hw : canonical (cmdId w) = k) (hk : k.toNat ≠ 0x10) :
    s.recordControl (w.extractLsb' 30 2) (k.extractLsb' 0 6) (colour24 w) = s.recorded w := by
  subst hw
  exact recordControl_eq (extractLsb'_canonical (cmdId w) hk)

/-- `C_CLEARFIFO` records its word, then runs `ClearFifo` (R270, R273). -/
theorem exec_cClearfifo (m : BitVec 2) (p : BitVec 24) (s : State) :
    exec (.cClearfifo m p) s = .next (s.recordControl m 0x01 p).clearFifo := rfl

/-- Settles O42: the row of the canonical id, then the word recorded before the buffer and the transfers are dropped. -/
theorem clearFifoDropsPendingState : Obligations.ClearFifoDropsPendingState := by
  intro s w hw
  have hrecord : s.recordControl (w.extractLsb' 30 2) 0x01 (colour24 w) = s.recorded w :=
    recordControl_of_canonical s hw (by decide)
  refine ⟨decodeGP1_eq hw rfl, ?_⟩
  rw [exec_cClearfifo, hrecord, State.clearFifo_eq]

end Sys2Proof.Machine

/-! ## Proofs of the statements of spec/45_attribute_set.md

What the attribute-set handlers assemble from the fields of their word; then what each of the commands writes. -/

namespace Sys2Proof.Machine

/-! ### The operand of a one-word command (R111, R220) -/

/-- A field of the operand of a word is that field of the word (R111). -/
theorem extractLsb'_colour24 (w : Word) {lo n : Nat} (h : lo + n ≤ 24) :
    (colour24 w).extractLsb' lo n = w.extractLsb' lo n := BitVec.extractLsb'_extractLsb'_of_le h

/-- A command of one word is decoded with the words that a longer entry takes besides (R102, log 3). -/
theorem decodeGP0_one_word {c : Config} {h : Handler} {w : Word} {extra : List Word} {i : Instr} (hw : h.words = 1)
    (hi : assemble h false (w :: extra) = i) (he : c.entry (cmdId w) = some ⟨.fixed (1 + extra.length), h⟩) :
    decodeGP0 c (w :: extra) = .ok (i, []) :=
  hi ▸ decodeGP0_longer_entry (ws := []) hw he

/-! ### What the attribute-set handlers assemble (R221 to R226) -/

theorem assemble_texpage (t : Bool) (w : Word) (ws : List Word) : assemble .texpage t (w :: ws) =
    .texpage (w.extractLsb' 0 11) (w.getLsbD 11) (w.extractLsb' 12 2) := by
  rw [← extractLsb'_colour24 w (lo := 0) (n := 11) (by decide), ← getLsbD_colour24 w (b := 11) (by decide),
    ← extractLsb'_colour24 w (lo := 12) (n := 2) (by decide)]
  rfl

theorem assemble_texwin (t : Bool) (w : Word) (ws : List Word) :
    assemble .texwin t (w :: ws) = .texwin (w.extractLsb' 0 20) :=
  congrArg Instr.texwin (extractLsb'_colour24 w (by decide))

theorem assemble_drawareaTL (t : Bool) (w : Word) (ws : List Word) :
    assemble .drawareaTL t (w :: ws) = .drawareaTL (w.extractLsb' 0 19) :=
  congrArg Instr.drawareaTL (extractLsb'_colour24 w (by decide))

theorem assemble_drawareaBR (t : Bool) (w : Word) (ws : List Word) :
    assemble .drawareaBR t (w :: ws) = .drawareaBR (w.extractLsb' 0 19) :=
  congrArg Instr.drawareaBR (extractLsb'_colour24 w (by decide))

theorem assemble_drawofs (t : Bool) (w : Word) (ws : List Word) :
    assemble .drawofs t (w :: ws) = .drawofs (w.extractLsb' 0 22) :=
  congrArg Instr.drawofs (extractLsb'_colour24 w (by decide))

theorem assemble_maskset (t : Bool) (w : Word) (ws : List Word) :
    assemble .maskset t (w :: ws) = .maskset (w.getLsbD 0) (w.getLsbD 1) :=
  congrArg₂ Instr.maskset (getLsbD_colour24 w (by decide)) (getLsbD_colour24 w (by decide))

/-! ### The attribute-set commands (R221 to R227) -/

/-- Settles O38: the eleven mode bits written are the low bits of the word, and bit 15 is its bit 11 where `TEXDIS_ALLOW` is set. -/
theorem texpageWritesModeFields : Obligations.TexpageWritesModeFields := by
  intro s extra w i
  have hcsr : ∀ b < 32, (csrTexpage s.csr (w.extractLsb' 0 11) (w.getLsbD 11 && s.texdisAllow)).getLsbD b =
      if b ≤ 10 then w.getLsbD b else if b = 15 then w.getLsbD 11 && s.texdisAllow else s.csr.getLsbD b := by
    intro b hb
    rw [getLsbD_csrTexpage _ _ _ hb]
    by_cases hmode : b ≤ 10
    · rw [if_pos hmode, if_pos hmode, BitVec.getLsbD_extractLsb', decide_eq_true (by omega), Bool.true_and, Nat.zero_add]
    · rw [if_neg hmode, if_neg hmode]
  exact ⟨decodeGP0_one_word rfl (assemble_texpage false w extra), _, rfl, rfl, hcsr⟩

/-- Settles O39: each decodes to the window of its word, and its handler writes that register alone. -/
theorem contextRegistersStoreOperand : Obligations.ContextRegistersStoreOperand := by
  intro s extra w
  exact ⟨decodeGP0_one_word rfl (assemble_texwin false w extra), rfl,
    decodeGP0_one_word rfl (assemble_drawareaTL false w extra), rfl,
    decodeGP0_one_word rfl (assemble_drawareaBR false w extra), rfl,
    decodeGP0_one_word rfl (assemble_drawofs false w extra), rfl⟩

/-- Settles O40: the two status bits `MASKSET` writes, then the one that `IRQ1` sets. -/
theorem maskAndIrqCommandsWriteTheirBits : Obligations.MaskAndIrqCommandsWriteTheirBits := by
  intro s extra w
  refine ⟨decodeGP0_one_word rfl (assemble_maskset false w extra), ?maskset, decodeGP0_one_word rfl rfl, ?irq1⟩
  case maskset =>
    exact ⟨s.withCsr (csrMask s.csr (w.getLsbD 0) (w.getLsbD 1)), rfl, rfl, fun b hb => getLsbD_csrMask s.csr _ _ hb⟩
  case irq1 => exact congrArg (fun v => (.next (s.withCsr v) : Result)) (csrIrq1_true s.csr)

end Sys2Proof.Machine

/-! ## Proofs of the statements of spec/46_assembler.md

What a word does where the assertion of R243 holds; then one word of a command; then the words of an encoded command, run or skipped. -/

namespace Sys2Proof.Machine

/-! ### Every step is defined (R254, R320, R324) -/

/-- A dispatch completes, skipped or not: no command faults or is refused (R248, R320). -/
theorem dispatchBuffer_completes (h : Handler) (terminated : Bool) (s : State) : ∃ t, dispatchBuffer h terminated s = .next t := by
  cases hs : s.frameskip && s.cfg.skippable (cmdId (s.cmdbuf.headD 0)) with
  | true => exact ⟨_, dispatchBuffer_of_skipped hs⟩
  | false =>
    obtain ⟨u, -, -, hu⟩ := endDispatch_exec (assemble h terminated (s.handlerWords h)) (s.drawDeadWords h)
    exact ⟨_, (dispatchBuffer_of_not_skipped hs).trans hu⟩

theorem bufferWord_completes (e : DispatchEntry) (w : Word) (s : State) : ∃ t, bufferWord e w s = .next t := by
  unfold bufferWord
  split
  · exact dispatchBuffer_completes ..
  · exact ⟨_, rfl⟩

/-- Where the buffer meets its bound, the command of the buffered words and the next one has an unknown id and no word yet, or an
entry with room for one more word: the assertion of R243 holds (R254). -/
theorem State.bufferOk.room {s : State} (hok : s.bufferOk) (hcfg : s.cfg.wf = true) (w : Word) :
    (s.cmdbuf = [] ∧ s.cfg.entry (cmdId w) = none) ∨
      ∃ e, s.cfg.entry (cmdId ((s.cmdbuf ++ [w]).headD 0)) = some e ∧ s.bufcnt < e.length.max := by
  rw [State.bufferOk, State.bufcnt] at hok
  rw [State.bufcnt]
  cases hc : s.cmdbuf with
  | nil =>
    cases he : s.cfg.entry (cmdId w) with
    | none => exact .inl ⟨rfl, rfl⟩
    | some e => exact .inr ⟨e, he, Config.max_pos hcfg he⟩
  | cons w0 ws =>
    rw [hc] at hok
    have hroom := hok.resolve_left (List.cons_ne_nil w0 ws)
    cases he : s.cfg.entry (cmdId w0) with
    | none => rw [Config.maxLen, List.headD_cons, he] at hroom; exact absurd hroom (Nat.not_lt_zero _)
    | some e => exact .inr ⟨e, he, Config.maxLen_eq he ▸ hroom⟩

/-- A word on the rendering channel is taken: as transfer data, as a discarded word, or into a buffer with room (R241 to R243). -/
theorem writeGP0_completes {s : State} (hok : s.bufferOk) (hcfg : s.cfg.wf = true) (w : Word) : ∃ t, writeGP0 w s = .next t := by
  cases hm : s.wmode with
  | passthrough => exact ⟨s.passthroughWord w, by rw [writeGP0, hm]⟩
  | framing =>
    obtain ⟨hc, he⟩ | ⟨e, he, hroom⟩ := hok.room hcfg w
    · exact ⟨s, writeGP0_of_unknown hm hc he⟩
    · rw [writeGP0_eq_bufferWord hm he hroom]
      exact bufferWord_completes e w s

theorem readData_completes (s : State) : ∃ t, readData s = .next t := by
  unfold readData; split <;> exact ⟨_, rfl⟩

theorem thaw_completes (blob : List Byte) (s : State) : ∃ t, thaw blob s = .next t := by
  unfold thaw; split <;> exact ⟨_, rfl⟩

/-- Every port operation completes in a state that meets the invariant (R320). -/
theorem portStep_completes {s : State} (hs : s.Inv) (op : PortOp) : ∃ t, portStep op s = .next t := by
  obtain ⟨hsound, hbuf⟩ := s.inv_iff.1 hs
  cases op with
  | writeGP0 w => exact writeGP0_completes hbuf.bound hsound.cfg w
  | writeGP1 w =>
    obtain ⟨t, ht, -⟩ := exec_effect (decodeGP1 w) s
    exact ⟨t, ht⟩
  | readData => exact readData_completes s
  | thaw blob => exact thaw_completes blob s
  | readStatus | setFrameSkip | writeStatusRaw | freeze | powerOn => exact ⟨_, rfl⟩

/-- Settles O19: a step rests or is one port operation, and the bound of the buffer is the assertion of R243. -/
theorem stepAlwaysDefined : Obligations.StepAlwaysDefined := by
  intro s hs
  have hcfg : s.cfg.wf = true := (s.inv_iff.1 hs).1.cfg
  cases hin : s.inputs with
  | nil => exact ⟨s, by rw [step_of_wf hcfg, nextPort, hin]⟩
  | cons op rest =>
    rw [step_of_inputs hcfg hin]
    exact portStep_completes (State.Inv.withInputs hs rest) op

/-! ### One word of a command (R243, R244, R250) -/

/-- A word that does not complete its command is stored (R243, R244). -/
theorem writeGP0_of_truncated {s : State} {w : Word} (hwf : s.cfg.wf = true) (hm : s.wmode = .framing)
    (hd : decodeGP0 s.cfg (s.cmdbuf ++ [w]) = .error .truncated) : writeGP0 w s = .next { s with cmdbuf := s.cmdbuf ++ [w] } := by
  obtain ⟨e, he, hf⟩ := decodeGP0_truncated hd
  obtain ⟨hroom, hnone⟩ := frame_none_last (Config.max_pos hwf he) hf
  rw [Nat.zero_add] at hroom hnone
  rw [writeGP0_eq_bufferWord hm he hroom, bufferWord]
  simp only [State.bufcnt, hnone]

/-- Settles O2: the entry of the first word has room for one that does not complete, and a skipped dispatch only ends. -/
theorem stepBuffersOrSkips : Obligations.StepBuffersOrSkips := by
  intro s w rest hwf hm hin
  rw [step_of_inputs hwf hin]
  refine ⟨fun hd => ?buffered, fun e ws t he hf hfs hsk => ?skipped⟩
  case buffered => exact writeGP0_of_truncated (s := { s with inputs := rest }) hwf hm hd
  case skipped =>
    obtain ⟨-, hdisp⟩ := writeGP0_of_frame (s := { s with inputs := rest }) hm (Config.max_pos hwf he) he hf
    exact hdisp.trans (dispatchBuffer_of_skipped (Bool.and_eq_true_iff.2 ⟨hfs, hsk⟩))

/-! ### The words of an encoded command (R242 to R249) -/

/-- No word completes a command of length 0 (R8, R244). -/
theorem frame_fixed_zero (k : Nat) (stream : List Word) : frame (.fixed 0) k stream = none := by
  induction stream generalizing k with
  | nil => rfl
  | cons w stream ih =>
    have hnone : checkComplete (.fixed 0) k w = none := if_neg (t := some false) (Nat.succ_ne_zero k)
    rw [frame, hnone, ih]

/-- A length class that takes words takes at least one (R113). -/
theorem max_pos_of_frame {l : LengthClass} {k : Nat} {stream : List Word} {r : List Word × Bool × List Word}
    (h : frame l k stream = some r) : 0 < l.max := by
  cases l with
  | varF | varG => decide
  | fixed n =>
    cases n with
    | zero => rw [frame_fixed_zero] at h; cases h
    | succ n => exact Nat.succ_pos n

/-- The words of a known command are those that the entry of its id takes, and its handler reads the command from them. -/
theorem frame_encode_known {c : Config} {i : Instr} (hc : i.channel = .gp0) (hu : i.isUnknown = false) (h : i.wellFormed c = true) :
    ∃ e t, c.entry (cmdId ((encode c i).headD 0)) = some e ∧ frame e.length 0 (encode c i) = some (encode c i, t, []) ∧
      e.handler.words ≤ (encode c i).length ∧ assemble e.handler t (encode c i) = i := by
  have hd := decodeGP0_encode_known hc hu h []
  rw [List.append_nil] at hd
  obtain ⟨w, -, -, hi⟩ | ⟨e, ws, t, he, hf, hw, hi⟩ := decodeGP0_cases hd
  · rw [isUnknown_of_unknownInstr hi] at hu; cases hu
  · obtain rfl : encode c i = ws := by simpa using (frame_some_append hf).1
    exact ⟨e, t, he, hf, hw, hi.symm⟩

/-- From Idle, feeding the words that an entry takes dispatches them, once (R242 to R244). -/
theorem portSteps_feed_of_idle {s : State} {e : DispatchEntry} {ws : List Word} {t : Bool} (hm : s.wmode = .framing)
    (hc : s.cmdbuf = []) (he : s.cfg.entry (cmdId (ws.headD 0)) = some e) (hf : frame e.length 0 ws = some (ws, t, [])) :
    portSteps (feedGP0 ws) s = dispatchBuffer e.handler t { s with cmdbuf := ws } := by
  have hcnt : s.bufcnt = 0 := by rw [State.bufcnt, hc, List.length_nil]
  rw [portSteps_feed_frame hm (by rwa [hc]) (hcnt ▸ max_pos_of_frame hf) (hcnt ▸ hf), hc, List.nil_append]

/-! ### Commands with a lasting effect (R251, U16) -/

/-- Geometry is what the handlers without a lasting effect read (R251). -/
theorem isGeometry_assemble (h : Handler) (t : Bool) (ws : List Word) : (assemble h t ws).isGeometry = !h.lasting := by
  cases h <;> rfl

/-- Settles O12: the words are dispatched at the last one, and the command they assemble to is not skipped, for either frames are not,
or its handler has a lasting effect, which no skippable id has. -/
theorem streamedCommandRunsOnce : Obligations.StreamedCommandRunsOnce := by
  intro s i hwf hm hc hch hw hu hrun
  obtain ⟨e, t, he, hf, hwords, hi⟩ := frame_encode_known hch hu hw
  have hskip : (s.frameskip && s.cfg.skippable (cmdId ((encode s.cfg i).headD 0))) = false := by
    rcases hrun with hfs | hgeom
    · rw [hfs, Bool.false_and]
    · rw [← hi, isGeometry_assemble, Bool.not_eq_false'] at hgeom
      cases hs : s.cfg.skippable (cmdId ((encode s.cfg i).headD 0)) with
      | false => exact Bool.and_false _
      | true => rw [Config.not_lasting hwf he hs] at hgeom; cases hgeom
  rw [portSteps_feed_of_idle hm hc he hf, dispatchBuffer_of_le hskip hwords, hi, endDispatch_exec_withCmdbuf hch]

/-! ### Skipped commands (R250 to R252) -/

/-- The end of a dispatch from Idle leaves nothing of the words that were buffered but the busy arming (R249, R252). -/
theorem State.endDispatch_withCmdbuf {s : State} (hc : s.cmdbuf = []) (ws : List Word) :
    State.endDispatch { s with cmdbuf := ws } =
      { s with busycnt := if 0 < s.cfg.fakeBusyReads then s.cfg.fakeBusyReads else s.busycnt } := by
  rw [State.endDispatch, ← hc]

/-- The rows of R108 whose handler has no lasting effect lie in the default skippable range. -/
theorem dispatchRows_skippable : ∀ r ∈ dispatchRows, ∀ e ∈ r.entry, e.handler.lasting = false → 0x20 ≤ r.lo ∧ r.hi ≤ 0x7F := by
  decide

/-- By default the skippable ids are those of the handlers without a lasting effect (R251). -/
theorem default_skippable_iff {id : BitVec 8} {e : DispatchEntry} (he : Config.default.entry id = some e) :
    Config.default.skippable id = true ↔ e.handler.lasting = false := by
  refine ⟨Config.not_lasting Config.default_wf he, fun hl => ?_⟩
  obtain ⟨r, hr, hlo, hhi⟩ := exists_dispatchRow id
  have hrow : r.entry = some e := (default_entry_of_row hr id hlo hhi).symm.trans he
  obtain ⟨h20, h7f⟩ := dispatchRows_skippable r hr e hrow hl
  exact Bool.and_eq_true_iff.2 ⟨decide_eq_true (h20.trans hlo), decide_eq_true (hhi.trans h7f)⟩

/-- Settles O13: a skipped dispatch of the words only ends; and the default range is that of the geometry handlers. -/
theorem skippedGeometryConsumesItsWords : Obligations.SkippedGeometryConsumesItsWords := by
  refine ⟨fun s i hm hc hfs hch hu hw hsk => ?skipped, fun i hch hu hw => ?range⟩
  case skipped =>
    obtain ⟨e, t, he, hf, -, -⟩ := frame_encode_known hch hu hw
    have hskip : (s.frameskip && s.cfg.skippable (cmdId ((encode s.cfg i).headD 0))) = true :=
      Bool.and_eq_true_iff.2 ⟨hfs, hsk⟩
    rw [portSteps_feed_of_idle hm hc he hf, dispatchBuffer_of_skipped hskip, State.endDispatch_withCmdbuf hc]
  case range =>
    obtain ⟨e, t, he, -, -, hi⟩ := frame_encode_known hch hu hw
    rw [default_skippable_iff he, ← Bool.not_eq_true', ← isGeometry_assemble e.handler t (encode Config.default i), hi]

end Sys2Proof.Machine

/-! ## Proofs of the statements of spec/47_control_channel.md, spec/48_host_ports.md and spec/60_exceptions.md

What a control word does once its row is known; then each control command; then a refused thaw, and that every command completes. -/

namespace Sys2Proof.Machine

/-! ### A control word and the row of its id (R111, R270, R271) -/

/-- A control word outside the GPU-info band decodes to the row of its canonical id, and a command that records its own id and operand
before the update `u` records that word (R45, R270). -/
theorem decode_and_exec_of_row {s : State} {w : Word} {k : BitVec 8} {r : ControlRow} {u : State → State}
    (hw : canonical (cmdId w) = k) (hk : k.toNat ≠ 0x10) (hr : controlRows[k.toNat]? = some r)
    (he : exec (r (w.extractLsb' 30 2) (w.extractLsb' 24 4) (colour24 w)) s =
      .next (u (s.recordControl (w.extractLsb' 30 2) (k.extractLsb' 0 6) (colour24 w)))) :
    decodeGP1 w = r (w.extractLsb' 30 2) (w.extractLsb' 24 4) (colour24 w) ∧
      exec (r (w.extractLsb' 30 2) (w.extractLsb' 24 4) (colour24 w)) s = .next (u (s.recorded w)) :=
  ⟨decodeGP1_eq hw hr, by rw [he, recordControl_of_canonical s hw hk]⟩

/-! ### `C_RESET` (R272, R351) -/

/-- Clearing the assembler after the registers are reset leaves the status at its reset value: its `VRDY` is already 0 (R31, R351). -/
theorem State.clearFifo_resetRegisters (s : State) : s.resetRegisters.clearFifo =
    { s.resetRegisters with cmdbuf := [], wmode := .framing, rmode := .normal } := by
  have hcsr : csrVrdy csrReset false = csrReset := by decide
  rw [State.clearFifo, State.resetRegisters_csr, hcsr]
  rfl

/-- Settles O41: the registers at reset, then the assembler under its parameter. -/
theorem controlResetRestoresRegisters : Obligations.ControlResetRestoresRegisters := by
  intro s w hw
  have hrecord : s.recordControl (w.extractLsb' 30 2) 0x00 (colour24 w) = s.recorded w :=
    recordControl_of_canonical s hw (by decide)
  refine ⟨decodeGP1_eq hw rfl, ?_⟩
  rw [exec, execCReset_eq, hrecord, State.clearFifo_resetRegisters]
  rfl

/-! ### Status fields (R274 to R276) -/

/-- A two-bit write replaces its bits and leaves every other bit alone (R11). -/
theorem getLsbD_setBits_two (v : Word) (lo : Nat) (f : BitVec 2) {b : Nat} (hb : b < 32) :
    (setBits v lo f).getLsbD b = if b = lo then f.getLsbD 0 else if b = lo + 1 then f.getLsbD 1 else v.getLsbD b := by
  rw [getLsbD_setBits v lo f hb]
  by_cases h0 : b = lo
  · subst h0; simp
  by_cases h1 : b = lo + 1
  · subst h1; simp
  rw [if_neg h0, if_neg h1, if_neg (by omega)]

/-- A status bit written from operand bit 0 of a control word takes bit 0 of the word (R111). -/
theorem getLsbD_setBit_colour24 (v w : Word) (i : Nat) {b : Nat} (hb : b < 32) :
    (setBit v i ((colour24 w).getLsbD 0)).getLsbD b = if b = i then w.getLsbD 0 else v.getLsbD b := by
  rw [getLsbD_setBit v i _ hb, getLsbD_colour24 w (by decide)]

/-- A status field written from operand bits 1:0 of a control word takes bits 1:0 of the word (R111). -/
theorem getLsbD_setBits_two_colour24 (v w : Word) (lo : Nat) {b : Nat} (hb : b < 32) :
    (setBits v lo ((colour24 w).extractLsb' 0 2)).getLsbD b =
      if b = lo then w.getLsbD 0 else if b = lo + 1 then w.getLsbD 1 else v.getLsbD b := by
  rw [getLsbD_setBits_two v lo _ hb, extractLsb'_colour24 w (by decide), BitVec.getLsbD_extractLsb', BitVec.getLsbD_extractLsb']
  rfl

/-- Settles O43: each records its word and writes its own bits of the status. -/
theorem controlFieldCommandsWriteTheirBits : Obligations.ControlFieldCommandsWriteTheirBits := by
  intro s w
  refine ⟨fun hw => ?ackirq, fun hw => ?dispen, fun hw => ?dmadir⟩
  case ackirq =>
    have hcsr : csrIrq1 s.csr false = s.csr &&& ~~~0x01000000 := csrIrq1_false s.csr
    rw [← hcsr]
    exact decode_and_exec_of_row (u := (·.withCsr (csrIrq1 s.csr false))) hw (by decide) rfl rfl
  case dispen =>
    obtain ⟨hdecode, hexec⟩ := decode_and_exec_of_row (s := s) (r := fun m _ p => .cDispen m p)
      (u := (·.withCsr (setBit s.csr 23 ((colour24 w).getLsbD 0)))) hw (by decide) rfl rfl
    exact ⟨hdecode, _, hexec, rfl, fun b hb => getLsbD_setBit_colour24 s.csr w 23 hb⟩
  case dmadir =>
    obtain ⟨hdecode, hexec⟩ := decode_and_exec_of_row (s := s) (r := fun m _ p => .cDmadir m p)
      (u := (·.withCsr (setBits s.csr 29 ((colour24 w).extractLsb' 0 2)))) hw (by decide) rfl rfl
    exact ⟨hdecode, _, hexec, rfl, fun b hb => getLsbD_setBits_two_colour24 s.csr w 29 hb⟩

/-! ### Display registers and `TEXDIS_ALLOW` (R277 to R279, R281) -/

/-- Settles O44: each records its word and stores a window of its operand, which is that window of the word. -/
theorem displayRegistersStoreOperand : Obligations.DisplayRegistersStoreOperand := by
  intro s w
  refine ⟨fun hw => ?disporg, fun hw => ?hrange, fun hw => ?vrange, fun hw => ?texdis⟩
  case disporg =>
    rw [← extractLsb'_colour24 w (lo := 0) (n := 19) (by decide)]
    exact decode_and_exec_of_row (u := fun t => { t with dispOrigin := (colour24 w).extractLsb' 0 19 }) hw (by decide) rfl rfl
  case hrange => exact decode_and_exec_of_row (u := fun t => { t with hrange := colour24 w }) hw (by decide) rfl rfl
  case vrange =>
    rw [← extractLsb'_colour24 w (lo := 0) (n := 20) (by decide)]
    exact decode_and_exec_of_row (u := fun t => { t with vrange := (colour24 w).extractLsb' 0 20 }) hw (by decide) rfl rfl
  case texdis =>
    rw [← getLsbD_colour24 w (b := 0) (by decide)]
    exact decode_and_exec_of_row (u := fun t => { t with texdisAllow := (colour24 w).getLsbD 0 }) hw (by decide) rfl rfl

/-! ### `C_GPUINFO` (R271, R283) -/

/-- The ids of the GPU-info band and its mirrors share the canonical id 0x10 and have 01 in bits 5:4 (R271). -/
theorem canonical_of_band : ∀ id : BitVec 8, 0x10 ≤ id.toNat % 64 → id.toNat % 64 ≤ 0x1F →
    canonical id = 0x10 ∧ id.extractLsb' 0 6 = 0b01#2 ++ id.extractLsb' 0 4 := by decide +kernel

/-- The low four bits of an id are bits 27:24 of its word (R111). -/
theorem extractLsb'_cmdId (w : Word) : (cmdId w).extractLsb' 0 4 = w.extractLsb' 24 4 := by
  rw [← extractLsb'_append_shift (cmdId w) (colour24 w) 0 4, cmdId_append_colour24]

/-- The answer to an index, by the number of the index (R283). -/
theorem State.gpuInfo_eq (s : State) (k : BitVec 4) : s.gpuInfo k =
    if k.toNat = 2 then BitVec.ofNat 32 s.texwin.toNat else if k.toNat = 3 then BitVec.ofNat 32 s.drawTl.toNat
    else if k.toNat = 4 then BitVec.ofNat 32 s.drawBr.toNat else if k.toNat = 5 then BitVec.ofNat 32 s.drawOfs.toNat
    else if k.toNat = 7 then s.cfg.gpuVersionWord else s.readback := by
  simp only [State.gpuInfo, ← BitVec.toNat_inj, BitVec.ofNat_toNat]
  rfl

/-- Settles O46: the band has one row, its commands record the whole id, and the index is the word modulo 16. -/
theorem gpuInfoAnswersRegisters : Obligations.GpuInfoAnswersRegisters := by
  intro s w hlo hhi k
  obtain ⟨hcanonical, hid⟩ := canonical_of_band (cmdId w) hlo hhi
  rw [extractLsb'_cmdId] at hid
  have hindex : ((colour24 w).extractLsb' 0 4).toNat = k := by
    rw [extractLsb'_colour24 w (by decide), toNat_extractLsb', Nat.pow_zero, Nat.div_one]
    rfl
  refine ⟨decodeGP1_eq hcanonical rfl, ?_⟩
  rw [exec, execCGpuinfo, recordControl_eq hid, State.gpuInfo_eq, hindex]

/-! ### A refused thaw (R309) -/

/-- A record is accepted when it has the length of R308 and the version of the block (R309). -/
theorem State.accepts_iff (s : State) (blob : List Byte) :
    s.accepts blob = true ↔ blob.length = blobBytes ∧ wordAt blob 0 = s.cfg.freezeVersion := by
  rw [State.accepts, Bool.and_eq_true, beq_iff_eq, beq_iff_eq]

/-- A record that is not accepted is answered as refused and changes nothing (R309). -/
theorem thaw_of_not_accepts {s : State} {blob : List Byte} (h : ¬s.accepts blob = true) :
    thaw blob s = .next (s.answer (.thawed false)) := if_neg h

/-- Settles O51: a wrong length or version is what the test of a record rejects. -/
theorem thawRefusesForeignRecord : Obligations.ThawRefusesForeignRecord := by
  intro s blob hforeign
  refine thaw_of_not_accepts fun haccepts => ?_
  obtain ⟨hlength, hversion⟩ := (s.accepts_iff blob).1 haccepts
  exact hforeign.elim (· hlength) (· hversion)

/-! ### Every command completes (R320) -/

/-- Settles O20: each command answers a next state of one of the forms of `Effect`. -/
theorem everyCommandCompletes : Obligations.EveryCommandCompletes := by
  intro i s
  obtain ⟨t, ht, -⟩ := exec_effect i s
  exact ⟨t, ht⟩

end Sys2Proof.Machine
